-- ==== Sys2Proof/Word.lean ====
section
/-! DEFINITION. The value widths of 00_scope.md R9 and R10. -/

namespace Sys2Proof

/-- bits8: a frame or reply byte. -/
abbrev Byte := BitVec 8

/-- bits12: a CPU part number or a chip family code. -/
abbrev Code12 := BitVec 12

/-- bits16: a halfword. -/
abbrev Half := BitVec 16

/-- bits32: a target address or a data word. -/
abbrev Word := BitVec 32

/-- A USB endpoint number; the spec gives it no width (R8: OPEN). -/
abbrev Endpoint := Nat

/-- The byte array of R11: an outbound frame `F[0..15]`. -/
abbrev Frame := List Byte

end Sys2Proof
end

