-- ==== Sys2Proof/Config.lean ====
section
/-! DEFINITION. The configuration record of 00_scope.md R8, and the constants without a body that
stand for its OPEN parameters. The default values are in Machine/Defaults.lean. -/

namespace Sys2Proof

/-- R24: the product variant of the opened probe. -/
inductive Variant where
  | variantA
  | variantB
deriving DecidableEq, Repr

/-- R31: the family group. -/
inductive Group where
  | g1 | g2 | g3 | g4 | g5 | g6 | g7 | g8 | g9
  | unknownGroup
deriving DecidableEq, Repr

/-- R8: the parameters a configuration may set. The rows R8 marks as fixed by the source are plain
constants (Machine/Defaults.lean), but for READ16_MASK, which 93 A1 makes a parameter. -/
structure Config where
  /-- CMD_GET_VERSION. -/
  cmdGetVersion : Byte
  /-- CMD_DEBUG. -/
  cmdDebug : Byte
  /-- CMD_DFU. -/
  cmdDfu : Byte
  /-- CMD_GET_CURRENT_MODE. -/
  cmdGetCurrentMode : Byte
  /-- CMD_GET_TARGET_VOLTAGE. -/
  cmdGetTargetVoltage : Byte
  /-- DFU_EXIT. -/
  dfuExit : Byte
  /-- DBG_GETSTATUS. -/
  dbgGetStatus : Byte
  /-- DBG_FORCEDEBUG. -/
  dbgForceDebug : Byte
  /-- DBG_RUNCORE. -/
  dbgRunCore : Byte
  /-- DBG_STEPCORE. -/
  dbgStepCore : Byte
  /-- DBG_READCOREID. -/
  dbgReadCoreId : Byte
  /-- DBG_ENTER. -/
  dbgEnter : Byte
  /-- DBG_RESETSYS. -/
  dbgResetSys : Byte
  /-- DBG_WRITEDEBUGREG. -/
  dbgWriteDebugReg : Byte
  /-- DBG_READDEBUGREG. -/
  dbgReadDebugReg : Byte
  /-- DBG_HARDRESET. -/
  dbgHardReset : Byte
  /-- HARD_RESET_ARG. -/
  hardResetArg : Byte
  /-- ENTER_SWD, the SWD mode parameter. -/
  enterSwd : Byte
  /-- RESP_LEN_MODE (90 C10: kept as a parameter). -/
  respLenMode : Nat
  /-- RESP_LEN_VOLTAGE (D6). -/
  respLenVoltage : Nat
  /-- RESP_LEN_FORCEDEBUG (D6). -/
  respLenForceDebug : Nat
  /-- RESP_LEN_COREID (D6). -/
  respLenCoreId : Nat
  /-- RESP_LEN_ENTER_SWD (D25). -/
  respLenEnterSwd : Nat
  /-- CPUID_ADDR (R35). -/
  cpuidAddr : Word
  /-- DHCSR_ADDR (R36). -/
  dhcsrAddr : Word
  /-- DEMCR_ADDR (R37). -/
  demcrAddr : Word
  /-- AIRCR_ADDR (R38). -/
  aircrAddr : Word
  /-- DHCSR_HALT_WORD (R36). -/
  dhcsrHaltWord : Word
  /-- DEMCR_HALT_AFTER_RESET_WORD (R37). -/
  demcrHaltAfterResetWord : Word
  /-- AIRCR_RESET_WORD (R38). -/
  aircrResetWord : Word
  /-- CHIPID_ADDR_M0 (R39). -/
  chipIdAddrM0 : Word
  /-- CHIPID_ADDR_OTHER (R39). -/
  chipIdAddrOther : Word
  /-- PN_M0. -/
  pnM0 : Code12
  /-- PN_M0P. -/
  pnM0P : Code12
  /-- PN_M1. -/
  pnM1 : Code12
  /-- PN_M3. -/
  pnM3 : Code12
  /-- PN_M4. -/
  pnM4 : Code12
  /-- PN_M7. -/
  pnM7 : Code12
  /-- READ16_MASK (R177, 93 A1). -/
  read16Mask : Word
  /-- FLASH_SIZE_ADDR (R227): a code with no row maps to none; the first row of a code counts. -/
  flashSizeAddr : List (Code12 × Word)
  /-- FAMILY_GROUP_TABLE (R228): a code with no row maps to UnknownGroup. -/
  familyGroup : List (Code12 × Group)
  /-- OUT_EP(VariantA). -/
  outEpA : Endpoint
  /-- OUT_EP(VariantB). -/
  outEpB : Endpoint
  /-- IN_EP. -/
  inEp : Endpoint
deriving DecidableEq, Repr

/-- OPEN (R8, R227): the FLASH_SIZE_ADDR rows beyond the two the source gives, each with bits [31:1]
of its address: bit 0 is 0, since R227 asks every address to be even. Log entry 8. -/
opaque Config.openFlashRows : List (Code12 × BitVec 31)

/-- OPEN (R8, R228): the FAMILY_GROUP_TABLE rows. Log entry 8. -/
opaque Config.openGroupRows : List (Code12 × Group)

/-- OPEN (R8, R76): OUT_EP(VariantA). Log entry 8. -/
opaque Config.openOutEpA : Endpoint

/-- OPEN (R8, R76): OUT_EP(VariantB). Log entry 8. -/
opaque Config.openOutEpB : Endpoint

/-- OPEN (R8, R76): IN_EP. Log entry 8. -/
opaque Config.openInEp : Endpoint

/-- A FREE VALUE: what stands for the k-th byte that an operation's fields ask of a reply too short to hold
it. R8 lets the lengths of MODE, TARGET_VOLTAGE and CORE_ID be set so, and the spec states no value there.
Nothing constrains it. Log entry 11. -/
opaque Config.missingByte : Nat → Byte

/-- R106, 93 A10: the host's conversion of the exact voltage to its floating-point format; no law
is assumed of it and no operation of the block calls it. Log entry 22. -/
opaque Config.toFloat : Rat → Float

end Sys2Proof
end

