-- ==== Sys2Proof/Machine/Defaults.lean ====
section
/-! DEFINITION. The values of 00_scope.md R8: the constants the source states, and `Config.default`, the
record of the replaceable parameters at their defaults. -/

namespace Sys2Proof

/-- FRAME_LEN, R71. -/
def Config.frameLen : Nat := 16

/-- RESP_LEN_VERSION. -/
def Config.respLenVersion : Nat := 6

/-- RESP_LEN_STATUS. -/
def Config.respLenStatus : Nat := 2

/-- RESP_LEN_ACK. -/
def Config.respLenAck : Nat := 2

/-- RESP_LEN_READ32. -/
def Config.respLenRead32 : Nat := 8

/-- RESP_LEN_WRITE32. -/
def Config.respLenWrite32 : Nat := 8

/-- VOLTAGE_SCALE = 12/5. -/
def Config.voltageScale : Rat := 12 / 5

/-- FLASH_SIZE_ADDR: the two entries the source states (R227), then the OPEN rows (log entry 8). -/
def Config.defaultFlashSizeAddr : List (Code12 × Word) :=
  (0x419, 0x1FFF7A22) :: (0x440, 0x1FFFF7CC) ::
    Config.openFlashRows.map (fun r => (r.1, r.2 ++ (0 : BitVec 1)))

/-- The defaults of R8. PRESUMED (log entry 7): every command byte, address, key word and part number
below is marked GK by R8 ("from general knowledge, not in source"). -/
def Config.default : Config where
  cmdGetVersion := 0xF1
  cmdDebug := 0xF2
  cmdDfu := 0xF3
  cmdGetCurrentMode := 0xF5
  cmdGetTargetVoltage := 0xF7
  dfuExit := 0x07
  dbgGetStatus := 0x01
  dbgForceDebug := 0x02
  dbgRunCore := 0x09
  dbgStepCore := 0x0A
  dbgReadCoreId := 0x22
  dbgEnter := 0x30
  dbgResetSys := 0x32
  dbgWriteDebugReg := 0x35
  dbgReadDebugReg := 0x36
  dbgHardReset := 0x3C
  hardResetArg := 0x02
  enterSwd := 0xA3
  respLenMode := 1
  respLenVoltage := 8
  respLenForceDebug := 2
  respLenCoreId := 4
  respLenEnterSwd := 0
  cpuidAddr := 0xE000ED00
  dhcsrAddr := 0xE000EDF0
  demcrAddr := 0xE000EDFC
  aircrAddr := 0xE000ED0C
  dhcsrHaltWord := 0xA05F0003
  demcrHaltAfterResetWord := 0x00000001
  aircrResetWord := 0x05FA0004
  chipIdAddrM0 := 0x40015800
  chipIdAddrOther := 0xE0042000
  pnM0 := 0xC20
  pnM0P := 0xC60
  pnM1 := 0xC21
  pnM3 := 0xC23
  pnM4 := 0xC24
  pnM7 := 0xC27
  read16Mask := 0x000FFFFF
  flashSizeAddr := Config.defaultFlashSizeAddr
  familyGroup := Config.openGroupRows
  outEpA := Config.openOutEpA
  outEpB := Config.openOutEpB
  inEp := Config.openInEp

end Sys2Proof
end

