-- ==== Sys2Proof/Syntax.lean ====
section
/-! DEFINITION. The syntax: the 26 host operations with the typed arguments of 30_encoding.md R70, the
host request as it stands on the request port, and the commands a wire frame can carry (R79, R80). -/

namespace Sys2Proof

/-- The operations of R4 and R70, one per row of the opcode table, with R70's typed arguments. -/
inductive Instr where
  /-- MODE, R132. -/
  | mode
  /-- EXIT_DFU, R133. -/
  | exitDfu
  /-- ENTER_SWD, R134. -/
  | enterSwd
  /-- SESSION_INIT, R135. -/
  | sessionInit
  /-- CLOSE, R137. -/
  | close
  /-- VERSION, R104. -/
  | version
  /-- TARGET_VOLTAGE, R105. -/
  | targetVoltage
  /-- STATUS, R160. -/
  | status
  /-- HALT, R161. -/
  | halt
  /-- STEP, R162. -/
  | step
  /-- RUN, R163. -/
  | run
  /-- RESET, R164. -/
  | reset
  /-- HARD_RESET, R165. -/
  | hardReset
  /-- FORCE_DEBUG, R166. -/
  | forceDebug
  /-- CORE_ID, R167. -/
  | coreId
  /-- READ32, R170. -/
  | read32 (addr : Word)
  /-- WRITE32, R173. -/
  | write32 (addr word : Word)
  /-- READ16, R177. -/
  | read16 (addr : Word)
  /-- CPU_ID, R175. -/
  | cpuId
  /-- CORE_RESET_HALT, R179. -/
  | coreResetHalt
  /-- CORTEX_PART_NUMBER, R220. -/
  | cortexPartNumber
  /-- CHIP_ID, R221. -/
  | chipId
  /-- DEV_ID, R222. -/
  | devId
  /-- FAMILY_GROUP, R223. -/
  | familyGroup (family : Code12)
  /-- FLASH_SIZE, R224. -/
  | flashSize
  /-- CLOCK_SPEED, R180. -/
  | clockSpeed
deriving DecidableEq, Repr

/-- A host request as it stands on the request port (R28, R70): the 8-bit code and the arguments, each in
a 32-bit word. The words are the model's layout (log entry 10); R70 gives codes and types. -/
structure Request where
  code : Byte
  args : List Word
deriving DecidableEq, Repr

/-- The commands a wire frame carries (R79, R101). HALT and STEP send one and the same frame (R80),
here `stepCore`. -/
inductive FrameOp where
  | mode
  | exitDfu
  | enterSwd
  | version
  | targetVoltage
  | status
  | stepCore
  | run
  | reset
  | hardReset
  | forceDebug
  | coreId
  | read32 (addr : Word)
  | write32 (addr word : Word)
deriving DecidableEq, Repr

end Sys2Proof
end

