-- ==== Sys2Proof/Machine/Operands.lean ====
section
/-! DEFINITION. The byte-array and bit-field primitives of 00_scope.md R10 to R12, the request arguments of
30_encoding.md R70, and the field forms the operations use: the version word (R104), the READ16 halfword
(R177), the CPUID part number (R220) and the family code (R222). -/

namespace Sys2Proof

/-- A reply as the fields of an operation read it, n bytes at least: the bytes received, and in the place of
the bytes a shorter reply does not hold free values, the k-th and those after it. The block reads no byte
it has not received (R268); the value is open. Log entry 11. -/
def filled (n : Nat) (b : List Byte) (k : Nat) : List Byte :=
  b ++ (List.range (n - b.length)).map fun i => Config.missingByte (k + i)

/-- `le32(B, i)` of R12: the little-endian word at byte i. An index past the end reads 0; no operation
reads there: the replies whose length a configuration may set are read as `filled`. -/
def le32 (b : List Byte) (i : Nat) : Word :=
  b.getD (i + 3) 0 ++ b.getD (i + 2) 0 ++ b.getD (i + 1) 0 ++ b.getD i 0

/-- `sle32(B, i)` of R12: `le32` read as int32. -/
def sle32 (b : List Byte) (i : Nat) : Int :=
  (le32 b i).toInt

/-- `put_le32(F, i, v)` of R12. -/
def putLe32 (f : Frame) (i : Nat) (v : Word) : Frame :=
  (((f.set i (v.extractLsb' 0 8)).set (i + 1) (v.extractLsb' 8 8)).set (i + 2)
    (v.extractLsb' 16 8)).set (i + 3) (v.extractLsb' 24 8)

/-- `Frame(b0, b1, ...)` of R12 and R72: the bytes in order, then 0x00 up to FRAME_LEN bytes. -/
def frameOf (bytes : List Byte) : Frame :=
  bytes ++ List.replicate (Config.frameLen - bytes.length) 0

/-- The number of arguments R70 gives a host code; none for the reserved codes of R81. -/
def requestArity (code : Byte) : Option Nat :=
  if code = 0 ∨ 0x1A < code.toNat then none
  else if code = 0x10 ∨ code = 0x12 ∨ code = 0x18 then some 1
  else if code = 0x11 then some 2
  else some 0

/-- R70: the host code of FAMILY_GROUP, the one operation with a 12-bit argument. -/
def familyGroupCode : Byte := 0x18

/-- R104: the version word, `B[0] || B[1]`. -/
def versionWord (b : List Byte) : Half :=
  b.getD 0 0 ++ b.getD 1 0

/-- R104: `v[15:12]`. -/
def versionMajor (v : Half) : BitVec 4 := v.extractLsb' 12 4

/-- R104: `v[11:6]`. -/
def versionJtag (v : Half) : BitVec 6 := v.extractLsb' 6 6

/-- R104: `v[5:0]`. -/
def versionSwim (v : Half) : BitVec 6 := v.extractLsb' 0 6

/-- `dec(n)` of R104: the decimal numeral with no leading zeros. -/
def dec (n : Nat) : List Char := Nat.toDigits 10 n

/-- R104: "V" ++ dec(major) ++ "J" ++ dec(jtag) ++ "S" ++ dec(swim). -/
def versionText (major jtag swim : Nat) : String :=
  String.ofList ('V' :: dec major ++ 'J' :: dec jtag ++ 'S' :: dec swim)

/-- R105, R106: VOLTAGE_SCALE * measured / reference in the exact rationals. -/
def voltageVolts (reference measured : Int) : Rat :=
  Config.voltageScale * (measured : Rat) / (reference : Rat)

/-- R176: `a[0] = 1`. -/
def isOdd (a : Word) : Bool := a.getLsbD 0

/-- R177: `a & 0xFFFFFFFC`. -/
def wordAddr (a : Word) : Word := a &&& 0xFFFFFFFC

/-- R177: the halfword READ16 returns from the containing word: shift by 16 when `a[1:0]` is not 00,
mask, truncate to 16 bits. -/
def halfOf (mask a w : Word) : Half :=
  let w := if a.extractLsb' 0 2 = 0 then w else w >>> 16
  (w &&& mask).extractLsb' 0 16

/-- R220: `S.cpuid[15:4]`. -/
def partField (cpuid : Word) : Code12 := cpuid.extractLsb' 4 12

/-- R222: `v[11:0]`. -/
def familyField (chip : Word) : Code12 := chip.extractLsb' 0 12

/-- R227: FLASH_SIZE_ADDR(f). -/
def flashAddrOf (c : Config) (f : Code12) : Option Word := c.flashSizeAddr.lookup f

/-- R228: FAMILY_GROUP_TABLE(f); UnknownGroup for a code not in the table. -/
def groupOf (c : Config) (f : Code12) : Group := (c.familyGroup.lookup f).getD .unknownGroup

/-- R24, R76: OUT_EP(S.variant). -/
def outEp (c : Config) : Variant → Endpoint
  | .variantA => c.outEpA
  | .variantB => c.outEpB

end Sys2Proof
end

