-- ==== Sys2Proof/WellFormed.lean ====
section
/-! DEFINITION. The checks of well-formedness: of a host request (R70, R81), of a frame (R71) and of a
configuration (R8, R77, R80, R225, R227). An `Instr` needs none: its arguments carry R70's widths. -/

namespace Sys2Proof

/-- R70, R81: the code names an operation, there are as many arguments as it takes, and FAMILY_GROUP's
argument is a 12-bit value. -/
def Request.wellFormed (r : Request) : Bool :=
  requestArity r.code == some r.args.length &&
    (r.code != familyGroupCode || r.args.all (fun a => a.toNat < 4096))

/-- R71: every frame is FRAME_LEN bytes. -/
def Frame.wellFormed (f : Frame) : Bool := f.length == Config.frameLen

/-- R77: the replaceable reply lengths hold the fields the block reads from them: B[0] of MODE, two
words of TARGET_VOLTAGE, one word of CORE_ID. -/
def Config.lengthsHold (c : Config) : Bool :=
  decide (1 ≤ c.respLenMode) && decide (8 ≤ c.respLenVoltage) && decide (4 ≤ c.respLenCoreId)

/-- R225: "The six parameters must be pairwise distinct." -/
def Config.partNumbersDistinct (c : Config) : Bool :=
  decide [c.pnM0, c.pnM0P, c.pnM1, c.pnM3, c.pnM4, c.pnM7].Nodup

/-- R227: the two entries the source states are there, and every address in the table is even. -/
def Config.flashTableOk (c : Config) : Bool :=
  flashAddrOf c 0x419 == some 0x1FFF7A22 && flashAddrOf c 0x440 == some 0x1FFFF7CC &&
    c.flashSizeAddr.all (fun r => !isOdd r.2)

/-- R178: the mask keeps bits [15:0]. -/
def Config.maskOk (c : Config) : Bool :=
  c.read16Mask.extractLsb' 0 16 == 0xFFFF

/-- A configuration as R77, R178, R225 and R227 have it; no operation asks for it. -/
def Config.wellFormed (c : Config) : Bool :=
  c.lengthsHold && c.partNumbersDistinct && c.flashTableOk && c.maskOk

/-- The (byte 0, byte 1) pairs of R79's rows, HALT and STEP sharing one. -/
def Config.frameHeads (c : Config) : List (Byte × Byte) :=
  [(c.cmdGetCurrentMode, 0), (c.cmdDfu, c.dfuExit), (c.cmdDebug, c.dbgEnter), (c.cmdGetVersion, 0),
   (c.cmdGetTargetVoltage, 0), (c.cmdDebug, c.dbgGetStatus), (c.cmdDebug, c.dbgStepCore),
   (c.cmdDebug, c.dbgRunCore), (c.cmdDebug, c.dbgResetSys), (c.cmdDebug, c.dbgHardReset),
   (c.cmdDebug, c.dbgForceDebug), (c.cmdDebug, c.dbgReadCoreId), (c.cmdDebug, c.dbgReadDebugReg),
   (c.cmdDebug, c.dbgWriteDebugReg)]

/-- R80: "A frame the block emits is identified by bytes 0 and 1 alone": the pairs differ. -/
def Config.framesDistinct (c : Config) : Bool :=
  decide c.frameHeads.Nodup

end Sys2Proof
end

