-- ==== Sys2Proof/Decode.lean ====
section
/-! DEFINITION. The two decoders of 30_encoding.md, total on any input and rejecting by name, each with
its encoder after it: host requests (R70, R81) and wire frames (R71 to R75, R79, R80, R101). -/

namespace Sys2Proof

/-- Why a host request names no operation. -/
inductive RequestReject where
  /-- R81: the code is 0x00 or 0x1B to 0xFF. -/
  | reservedCode
  /-- R70: the code is assigned, but the arguments are not of the number and widths it takes. -/
  | badArguments
deriving DecidableEq, Repr

/-- R80: why a frame was not produced by the block. -/
inductive FrameReject where
  /-- R71: not FRAME_LEN bytes. -/
  | badLength
  /-- R80: bytes 0 and 1 (and 2 for WF3) are no row of R79. -/
  | unknownCommand
  /-- R80: an unassigned byte is not 0x00. -/
  | strayBytes
deriving DecidableEq, Repr

/-- R70: the operations without arguments, by host code. -/
def decodePlain (code : Byte) : Option Instr :=
  if code = 0x01 then some .mode
  else if code = 0x02 then some .exitDfu
  else if code = 0x03 then some .enterSwd
  else if code = 0x04 then some .sessionInit
  else if code = 0x05 then some .close
  else if code = 0x06 then some .version
  else if code = 0x07 then some .targetVoltage
  else if code = 0x08 then some .status
  else if code = 0x09 then some .halt
  else if code = 0x0A then some .step
  else if code = 0x0B then some .run
  else if code = 0x0C then some .reset
  else if code = 0x0D then some .hardReset
  else if code = 0x0E then some .forceDebug
  else if code = 0x0F then some .coreId
  else if code = 0x13 then some .cpuId
  else if code = 0x14 then some .coreResetHalt
  else if code = 0x15 then some .cortexPartNumber
  else if code = 0x16 then some .chipId
  else if code = 0x17 then some .devId
  else if code = 0x19 then some .flashSize
  else if code = 0x1A then some .clockSpeed
  else none

/-- R70: the operations with one argument; FAMILY_GROUP's is a 12-bit value. -/
def decodeUnary (code : Byte) (a : Word) : Option Instr :=
  if code = 0x10 then some (.read32 a)
  else if code = 0x12 then some (.read16 a)
  else if code = familyGroupCode ∧ a.toNat < 4096 then some (.familyGroup (a.extractLsb' 0 12))
  else none

/-- R70: the operation a well-formed request names. -/
def decodeOperands (code : Byte) (args : List Word) : Option Instr :=
  match args with
  | [] => decodePlain code
  | [a] => decodeUnary code a
  | [a, w] => if code = 0x11 then some (.write32 a w) else none
  | _ => none

/-- R70, R81: a host request to its operation, or the reason it names none. -/
def decodeRequest (r : Request) : Except RequestReject Instr :=
  match requestArity r.code with
  | none => .error .reservedCode
  | some _ =>
    match decodeOperands r.code r.args with
    | some i => .ok i
    | none => .error .badArguments

/-- R70: the host code of an operation. -/
def Instr.code : Instr → Byte
  | .mode => 0x01
  | .exitDfu => 0x02
  | .enterSwd => 0x03
  | .sessionInit => 0x04
  | .close => 0x05
  | .version => 0x06
  | .targetVoltage => 0x07
  | .status => 0x08
  | .halt => 0x09
  | .step => 0x0A
  | .run => 0x0B
  | .reset => 0x0C
  | .hardReset => 0x0D
  | .forceDebug => 0x0E
  | .coreId => 0x0F
  | .read32 _ => 0x10
  | .write32 _ _ => 0x11
  | .read16 _ => 0x12
  | .cpuId => 0x13
  | .coreResetHalt => 0x14
  | .cortexPartNumber => 0x15
  | .chipId => 0x16
  | .devId => 0x17
  | .familyGroup _ => 0x18
  | .flashSize => 0x19
  | .clockSpeed => 0x1A

/-- R70: the arguments of an operation. -/
def Instr.args : Instr → List Word
  | .read32 a => [a]
  | .write32 a w => [a, w]
  | .read16 a => [a]
  | .familyGroup f => [f.setWidth 32]
  | .mode => []
  | .exitDfu => []
  | .enterSwd => []
  | .sessionInit => []
  | .close => []
  | .version => []
  | .targetVoltage => []
  | .status => []
  | .halt => []
  | .step => []
  | .run => []
  | .reset => []
  | .hardReset => []
  | .forceDebug => []
  | .coreId => []
  | .cpuId => []
  | .coreResetHalt => []
  | .cortexPartNumber => []
  | .chipId => []
  | .devId => []
  | .flashSize => []
  | .clockSpeed => []

/-- The request that names an operation (R70). -/
def encodeRequest (i : Instr) : Request := ⟨i.code, i.args⟩

/-- `Encode` of R101: the 16-byte frame of a command. -/
def encodeFrame (c : Config) : FrameOp → Frame
  | .mode => frameOf [c.cmdGetCurrentMode]
  | .exitDfu => frameOf [c.cmdDfu, c.dfuExit]
  | .enterSwd => frameOf [c.cmdDebug, c.dbgEnter, c.enterSwd]
  | .version => frameOf [c.cmdGetVersion]
  | .targetVoltage => frameOf [c.cmdGetTargetVoltage]
  | .status => frameOf [c.cmdDebug, c.dbgGetStatus]
  | .stepCore => frameOf [c.cmdDebug, c.dbgStepCore]
  | .run => frameOf [c.cmdDebug, c.dbgRunCore]
  | .reset => frameOf [c.cmdDebug, c.dbgResetSys]
  | .hardReset => frameOf [c.cmdDebug, c.dbgHardReset, c.hardResetArg]
  | .forceDebug => frameOf [c.cmdDebug, c.dbgForceDebug]
  | .coreId => frameOf [c.cmdDebug, c.dbgReadCoreId]
  | .read32 a => putLe32 (frameOf [c.cmdDebug, c.dbgReadDebugReg]) 2 a
  | .write32 a w => putLe32 (putLe32 (frameOf [c.cmdDebug, c.dbgWriteDebugReg]) 2 a) 6 w

/-- A row of R79's map: bytes 0 and 1, byte 2 for the WF3 rows, and the command with the operands R74
places at bytes 2 to 5 and 6 to 9. -/
structure FrameRow where
  b0 : Byte
  b1 : Byte
  param : Option Byte
  op : Word → Word → FrameOp

/-- R79, HALT and STEP sharing one row (R80). -/
def frameRows (c : Config) : List FrameRow :=
  [⟨c.cmdGetCurrentMode, 0, none, fun _ _ => .mode⟩,
   ⟨c.cmdDfu, c.dfuExit, none, fun _ _ => .exitDfu⟩,
   ⟨c.cmdDebug, c.dbgEnter, some c.enterSwd, fun _ _ => .enterSwd⟩,
   ⟨c.cmdGetVersion, 0, none, fun _ _ => .version⟩,
   ⟨c.cmdGetTargetVoltage, 0, none, fun _ _ => .targetVoltage⟩,
   ⟨c.cmdDebug, c.dbgGetStatus, none, fun _ _ => .status⟩,
   ⟨c.cmdDebug, c.dbgStepCore, none, fun _ _ => .stepCore⟩,
   ⟨c.cmdDebug, c.dbgRunCore, none, fun _ _ => .run⟩,
   ⟨c.cmdDebug, c.dbgResetSys, none, fun _ _ => .reset⟩,
   ⟨c.cmdDebug, c.dbgHardReset, some c.hardResetArg, fun _ _ => .hardReset⟩,
   ⟨c.cmdDebug, c.dbgForceDebug, none, fun _ _ => .forceDebug⟩,
   ⟨c.cmdDebug, c.dbgReadCoreId, none, fun _ _ => .coreId⟩,
   ⟨c.cmdDebug, c.dbgReadDebugReg, none, fun a _ => .read32 a⟩,
   ⟨c.cmdDebug, c.dbgWriteDebugReg, none, fun a w => .write32 a w⟩]

/-- R80: the row a frame matches: bytes 0 and 1, "and for WF3 frames additionally byte 2". -/
def FrameRow.matchesFrame (r : FrameRow) (f : Frame) : Bool :=
  r.b0 == f.getD 0 0 && r.b1 == f.getD 1 0 && r.param.all (· == f.getD 2 0)

/-- R80, R74: the command a frame's leading bytes name, with its operands. -/
def decodeHead (c : Config) (f : Frame) : Option FrameOp :=
  ((frameRows c).find? (fun r => r.matchesFrame f)).map fun r => r.op (le32 f 2) (le32 f 6)

/-- R73: how many leading bytes the command's format assigns; R72 makes the others 0x00. Byte 1 of a
WF1 frame is unassigned and part of the pair R80 compares. -/
def FrameOp.assigned : FrameOp → Nat
  | .mode => 1
  | .version => 1
  | .targetVoltage => 1
  | .exitDfu => 2
  | .status => 2
  | .stepCore => 2
  | .run => 2
  | .reset => 2
  | .forceDebug => 2
  | .coreId => 2
  | .enterSwd => 3
  | .hardReset => 3
  | .read32 _ => 6
  | .write32 _ _ => 10

/-- R80: the frame checker: the command of a frame the block may have produced, or why it did not. -/
def decodeFrame (c : Config) (f : Frame) : Except FrameReject FrameOp :=
  if f.length = Config.frameLen then
    match decodeHead c f with
    | none => .error .unknownCommand
    | some op => if (f.drop op.assigned).all (· == 0) then .ok op else .error .strayBytes
  else .error .badLength

/-- R101: the command of the frame an operation sends on its own; none for the operations that send no
frame or only those of the operations they call (R79). For WRITE32 it is the write frame. -/
def Instr.frameOp : Instr → Option FrameOp
  | .mode => some .mode
  | .exitDfu => some .exitDfu
  | .enterSwd => some .enterSwd
  | .version => some .version
  | .targetVoltage => some .targetVoltage
  | .status => some .status
  | .halt => some .stepCore
  | .step => some .stepCore
  | .run => some .run
  | .reset => some .reset
  | .hardReset => some .hardReset
  | .forceDebug => some .forceDebug
  | .coreId => some .coreId
  | .read32 a => some (.read32 a)
  | .write32 a w => some (.write32 a w)
  | .sessionInit => none
  | .close => none
  | .read16 _ => none
  | .cpuId => none
  | .coreResetHalt => none
  | .cortexPartNumber => none
  | .chipId => none
  | .devId => none
  | .familyGroup _ => none
  | .flashSize => none
  | .clockSpeed => none

/-- An operation that sends the command; of HALT and STEP, which cannot be told apart (R80), HALT
(log entry 12). -/
def FrameOp.instr : FrameOp → Instr
  | .mode => .mode
  | .exitDfu => .exitDfu
  | .enterSwd => .enterSwd
  | .version => .version
  | .targetVoltage => .targetVoltage
  | .status => .status
  | .stepCore => .halt
  | .run => .run
  | .reset => .reset
  | .hardReset => .hardReset
  | .forceDebug => .forceDebug
  | .coreId => .coreId
  | .read32 a => .read32 a
  | .write32 a w => .write32 a w

/-- R79: the frame whose first bytes are the nbits-bit number w, byte 0 the most significant (the table's
match and mask are over `F[0] << 16 | F[1] << 8 | F[2]`), every other byte 0x00. -/
def frameOfWord (nbits w : Nat) : Frame :=
  let n := nbits / 8
  frameOf ((List.range n).map (fun k => BitVec.ofNat 8 (w >>> (8 * (n - 1 - k)))))

/-- The request with a host code and zero for each argument it takes. -/
def requestOfCode (code : Byte) : Request :=
  ⟨code, List.replicate ((requestArity code).getD 0) 0⟩

/-- The instruction an opcode-table word stands for: an 8-bit word is a host code (R70), which is all the
table has for the composite rows; any other is the leading part of a wire frame (R79). Log entry 12. -/
def decodeTableWord (nbits w : Nat) : Option Instr :=
  if nbits = 8 then
    match decodeRequest (requestOfCode (BitVec.ofNat 8 w)) with
    | .ok i => some i
    | .error _ => none
  else
    match decodeFrame Config.default (frameOfWord nbits w) with
    | .ok op => some op.instr
    | .error _ => none

end Sys2Proof
end

