-- ==== Sys2Proof/Machine/State.lean ====
section
/-! DEFINITION. The state of one session as plain data: the session record S (10_state.md R20), the
configuration (R8, R41), the host request port (R28) and the transport port with its environment's
answers (R13, R27); the results and errors of operations (R260); the reset state (R290). -/

namespace Sys2Proof.Machine

/-- R29: the probe's operating mode, a result and never state of the block. -/
inductive Mode where
  | dfu
  | mass
  | debug
  | unknown
deriving DecidableEq, Repr

/-- R22: the cached run state of the target core. -/
inductive RunState where
  | running
  | halted
  | unknown
deriving DecidableEq, Repr

/-- R30: the class of the target core. -/
inductive CoreType where
  | m0 | m0p | m1 | m3 | m4 | m7
  | unknown
deriving DecidableEq, Repr

/-- R104: the probe's firmware version. -/
structure Version where
  major : BitVec 4
  jtag : BitVec 6
  swim : BitVec 6
  text : String
deriving DecidableEq, Repr

/-- R105: the target voltage: the two int32 samples and the exact quotient. -/
structure Voltage where
  reference : Int
  measured : Int
  volts : Rat
deriving DecidableEq, Repr

/-- R28, R70: the value an operation returns, one constructor for each result type. -/
inductive Value where
  | unit
  | mode (m : Mode)
  | version (v : Version)
  | voltage (v : Voltage)
  | runState (r : RunState)
  | word (w : Word)
  | half (h : Half)
  | coreType (c : CoreType)
  | family (f : Code12)
  | group (g : Group)
deriving DecidableEq, Repr

/-- R260, R263: what a failed Recv reports: the transport's own error value, which nothing constrains
(93 A5; a plain number here, log entry 15), or `short` (R268). -/
inductive RecvError where
  | value (e : Nat)
  | short
deriving DecidableEq, Repr

/-- R260: the seven errors of operations. They are results on the result port, not faults of the
machine. -/
inductive Error where
  /-- R261. -/
  | closed
  /-- R262. -/
  | transportSend (e : Nat)
  /-- R263, R268. -/
  | transportRecv (e : RecvError)
  /-- R264. -/
  | unalignedAccess (addr : Word)
  /-- R265. -/
  | measuredVoltageZero (measured : Int)
  /-- R266. -/
  | unknownCore (family : Code12)
  /-- R267. -/
  | notImplemented (what : String)
deriving DecidableEq, Repr

/-- R260: the error codes. -/
def Error.code : Error → Nat
  | .closed => 1
  | .transportSend _ => 2
  | .transportRecv _ => 3
  | .unalignedAccess _ => 4
  | .measuredVoltageZero _ => 5
  | .unknownCore _ => 6
  | .notImplemented _ => 7

/-- R28: what the result port carries when an operation ends. -/
inductive Result where
  | ok (v : Value)
  | err (e : Error)
deriving DecidableEq, Repr

/-- R13: the transport's answer to a Send. -/
inductive SendAnswer where
  | ok
  | fail (e : Nat)
deriving DecidableEq, Repr

/-- R13: the transport's answer to a Recv; an answer of any length is admitted. -/
inductive RecvAnswer where
  | ok (bytes : List Byte)
  | fail (e : Nat)
deriving DecidableEq, Repr

/-- One use of the transport port (R13, R27), with the answer it got; `none` when the transport never
answers (R300). -/
inductive Event where
  /-- A frame offered to endpoint `ep`. -/
  | send (ep : Endpoint) (frame : Frame) (answer : Option SendAnswer)
  /-- `n` bytes asked of endpoint `ep`. -/
  | recv (ep : Endpoint) (n : Nat) (answer : Option RecvAnswer)
  /-- The transport's close (R27). Its own outcome is ignored (93 A17). -/
  | close
deriving DecidableEq, Repr

/-- R290, R136: where a session stands in its opening. -/
inductive Phase where
  /-- Created; SESSION_INIT has not ended. -/
  | opening
  /-- SESSION_INIT ended with Ok and the host has the session. -/
  | ready
  /-- SESSION_INIT failed and the session was discarded. -/
  | discarded
deriving DecidableEq, Repr

/-- R20: the session record `S = { open, run, cpuid, variant, seq }`. -/
structure Session where
  /-- R21. -/
  isOpen : Bool
  /-- R22. -/
  run : RunState
  /-- R23: 0 means "not yet read". -/
  cpuid : Word
  /-- R24. -/
  variant : Variant
  /-- R25: the step index of a composite operation; 0 when no operation is in progress. -/
  seq : Nat
deriving DecidableEq, Repr

/-- Why the machine stops. -/
inductive Fault where
  /-- A step of a session whose operation the transport never answers: it has no further step (R300,
  93 A4). Raised by `step`. Safe: the spec says the run is a hang. -/
  | hang
deriving DecidableEq, Repr

/-- Why a request gets no meaning. -/
inductive Refusal where
  /-- An instruction of the table that the model gives no meaning yet; raised by an arm of `exec`. Safe. -/
  | notModelled (mnemonic : String)
  /-- R81: a reserved host request code; raised by `step`. Safe: R81 asks for the refusal. -/
  | reservedCode
  /-- A request whose arguments are not those R70 gives its code; raised by `step`. Safe (log entry 10). -/
  | badArguments
  /-- R26, R278: a request while an operation of the session is in progress; raised by every
  instruction and by `step`. Safe: R26 asks for the refusal. -/
  | requestOverlap
deriving DecidableEq, Repr

/-- The state of one session and its ports. -/
structure State where
  /-- R20: the session record. -/
  session : Session
  /-- R8, R41: the configuration; no operation writes it. -/
  cfg : Config
  /-- R290, R136: where the session stands in its opening. -/
  phase : Phase
  /-- R27, R290: the session holds the transport handle. -/
  claimed : Bool
  /-- R28: the host's requests that the block has not taken yet, in order. -/
  requests : List Request
  /-- R26, R300: the operation the transport left without an answer. -/
  inProgress : Option Instr
  /-- R28: the result port; none while no operation has ended since the last request was taken (log entry 29).
  It carries the open request's answer too (DESIGN CHOICE, log entry 33). -/
  result : Option Result
  /-- R13: the transport's answers to the Sends to come; no answer past its end. -/
  sends : List SendAnswer
  /-- R13: the transport's answers to the Recvs to come; no answer past its end. -/
  recvs : List RecvAnswer
  /-- R13, R61: every use of the transport port so far, in order. -/
  trace : List Event
  /-- The model's own: how many free values (`Config.missingByte`) the session has drawn. Log entry 11. -/
  drawn : Nat
deriving DecidableEq, Repr

/-- R290: the session record right after creation, for the probe's variant. -/
def Session.created (v : Variant) : Session where
  isOpen := true
  run := .unknown
  cpuid := 0
  variant := v
  seq := 0

/-- R290: session creation for a configuration and a probe variant, with nothing on the ports; SESSION_INIT
is still to run. -/
def State.created (c : Config) (v : Variant) : State where
  session := Session.created v
  cfg := c
  phase := .opening
  claimed := true
  requests := []
  inProgress := none
  result := none
  sends := []
  recvs := []
  trace := []
  drawn := 0

/-- The state after reset (R290: "Session creation is the block's reset"), with the default
configuration. DESIGN CHOICE (log entry 5): the probe's variant is VariantA. -/
def State.reset : State := State.created Config.default .variantA

/-! The updates the operations make; Laws/State.lean says what each leaves alone. -/

/-- `S.open <- b`. -/
def State.setOpen (s : State) (b : Bool) : State := { s with session := { s.session with isOpen := b } }

/-- `S.run <- r`. -/
def State.setRun (s : State) (r : RunState) : State := { s with session := { s.session with run := r } }

/-- `S.cpuid <- v`. -/
def State.setCpuid (s : State) (v : Word) : State := { s with session := { s.session with cpuid := v } }

/-- `seq <- k` (R14, R25). -/
def State.setSeq (s : State) (k : Nat) : State := { s with session := { s.session with seq := k } }

/-- Record a use of the transport port. -/
def State.log (s : State) (e : Event) : State := { s with trace := s.trace ++ [e] }

/-- The answers to Sends that are left. -/
def State.setSends (s : State) (l : List SendAnswer) : State := { s with sends := l }

/-- The answers to Recvs that are left. -/
def State.setRecvs (s : State) (l : List RecvAnswer) : State := { s with recvs := l }

/-- Put a value on the result port, or clear it. -/
def State.setResult (s : State) (r : Option Result) : State := { s with result := r }

/-- Mark the operation the transport left without an answer. -/
def State.setInProgress (s : State) (i : Option Instr) : State := { s with inProgress := i }

/-- Move the session to a phase of its opening. -/
def State.setPhase (s : State) (p : Phase) : State := { s with phase := p }

/-- Claim or release the transport handle. -/
def State.setClaimed (s : State) (b : Bool) : State := { s with claimed := b }

/-- Count the free values drawn. -/
def State.setDrawn (s : State) (k : Nat) : State := { s with drawn := k }

/-- The requests that are left. -/
def State.setRequests (s : State) (l : List Request) : State := { s with requests := l }

end Sys2Proof.Machine
end

