-- ==== Sys2Proof/Machine/Flags.lean ====
section
/-! DEFINITION. The block has no condition flags (10_state.md R32). The classifications it computes from
bytes and codes stand here: mode byte, run-state byte (R78), part number (R225, R226). -/

namespace Sys2Proof.Machine

/-- R78, R132: 0x00 DFU, 0x01 Mass, 0x02 Debug, any other Unknown. -/
def decodeMode (b : Byte) : Mode :=
  if b = 0x00 then .dfu
  else if b = 0x01 then .mass
  else if b = 0x02 then .debug
  else .unknown

/-- R78, R160: 0x80 Running, 0x81 Halted, any other Unknown. -/
def decodeRun (b : Byte) : RunState :=
  if b = 0x80 then .running
  else if b = 0x81 then .halted
  else .unknown

/-- R225: PartDecode. -/
def partDecode (c : Config) (pn : Code12) : CoreType :=
  if pn = c.pnM0 then .m0
  else if pn = c.pnM0P then .m0p
  else if pn = c.pnM1 then .m1
  else if pn = c.pnM3 then .m3
  else if pn = c.pnM4 then .m4
  else if pn = c.pnM7 then .m7
  else .unknown

/-- R226: IsM0Class. -/
def isM0Class (t : CoreType) : Bool := t == .m0 || t == .m0p

/-- R221: the address of the chip-identification register for a core type. -/
def chipIdAddr (c : Config) (t : CoreType) : Word :=
  if isM0Class t then c.chipIdAddrM0 else c.chipIdAddrOther

end Sys2Proof.Machine
end

