-- ==== Sys2Proof/Machine/Ops.lean ====
section
/-! DEFINITION. The control and transport primitives of 00_scope.md R13 and R14, the prologue (R100), the
shared command forms, and the end of an operation: `finish` delivers a value or takes an error (R272). -/

namespace Sys2Proof.Machine

/-- How a piece of an operation comes out: with a value (`return`, R14), with a raised error (`raise`,
R14), or blocked in the transport for ever (R300). Each carries the state it leaves. -/
inductive Res (α : Type) where
  | ok (v : α) (s : State)
  | err (e : Error) (s : State)
  | blocked (s : State)
deriving Repr

/-- Go on after a value; an error or a block ends the operation (R14: "its Err propagates as a raise"). -/
def Res.bind {α β : Type} (r : Res α) (k : α → State → Res β) : Res β :=
  match r with
  | .ok v s => k v s
  | .err e s => .err e s
  | .blocked s => .blocked s

/-- `try { A } catch e { H }` of R14, where A's value is not used: H is told the error, or none. -/
def Res.attempt {α : Type} (r : Res α) : Res (Option Error) :=
  match r with
  | .ok _ s => .ok none s
  | .err e s => .ok (some e) s
  | .blocked s => .blocked s

/-- `raise e` when there is an error, else go on. -/
def raiseIf (e : Option Error) (s : State) : Res Unit :=
  match e with
  | some e => .err e s
  | none => .ok () s

/-- `Send(F)` of R13, to endpoint OUT_EP(S.variant) (R76). -/
def send (f : Frame) (s : State) : Res Unit :=
  let ep := outEp s.cfg s.session.variant
  match s.sends with
  | [] => .blocked (s.log (.send ep f none))
  | .ok :: rest => .ok () ((s.setSends rest).log (.send ep f (some .ok)))
  | .fail e :: rest => .err (.transportSend e) ((s.setSends rest).log (.send ep f (some (.fail e))))

/-- `Recv(n)` of R13, from IN_EP (R76); an answer of another length is TransportRecv(short) (R268). -/
def recv (n : Nat) (s : State) : Res (List Byte) :=
  let ep := s.cfg.inEp
  match s.recvs with
  | [] => .blocked (s.log (.recv ep n none))
  | .ok b :: rest =>
    let s' := (s.setRecvs rest).log (.recv ep n (some (.ok b)))
    if b.length = n then .ok b s' else .err (.transportRecv .short) s'
  | .fail e :: rest =>
    .err (.transportRecv (.value e)) ((s.setRecvs rest).log (.recv ep n (some (.fail e))))

/-- `Transact(F, n)` of R13: no Recv after a failed Send, none when n is 0. -/
def transact (f : Frame) (n : Nat) (s : State) : Res (List Byte) :=
  (send f s).bind fun _ s => if n = 0 then .ok [] s else recv n s

/-- The n bytes the fields of an operation read (R77): those of the reply, and free values for the bytes a
reply of a shorter configured length does not hold. Log entry 11. -/
def fields (n : Nat) (b : List Byte) (s : State) : Res (List Byte) :=
  .ok (filled n b s.drawn) (s.setDrawn (s.drawn + (n - b.length)))

/-- `Transact(Encode(op), n)` (R101). -/
def command (op : FrameOp) (n : Nat) (s : State) : Res (List Byte) :=
  transact (encodeFrame s.cfg op) n s

/-- The prologue of R100: `if not S.open: raise Closed()`. -/
def prologue (s : State) : Res Unit :=
  if s.session.isOpen then .ok () s else .err .closed s

/-- `transport.close(); S.open <- false` (R136, R137). -/
def closeTransport (s : State) : State :=
  ((s.log .close).setClaimed false).setOpen false

/-- An acknowledged command that writes the run-state cache on success (R102, R161 to R166, R168): prologue,
Transact with the ack discarded, `S.run <- after`. -/
def ackCommand (op : FrameOp) (n : Nat) (after : RunState) (s : State) : Res Unit :=
  (prologue s).bind fun _ s =>
  (command op n s).bind fun _ s =>
  .ok () (s.setRun after)

/-- Taking a request: the result port is cleared and the first step begins (R25: "A primitive operation
has one step"; log entry 13). -/
def begin (s : State) : State := (s.setResult none).setSeq 1

/-- The end of an operation. A value goes to the result port. AN ERROR IS TAKEN as R272 says: "the result
port gets Err(error); every state write made by completed steps stays; S.seq <- 0; no state is saved and
no handler runs". A blocked operation has not ended (R300, R305): it stays in progress. -/
def finish (i : Instr) (r : Res Value) : State :=
  match r with
  | .ok v s => (s.setResult (some (.ok v))).setSeq 0
  | .err e s => (s.setResult (some (.err e))).setSeq 0
  | .blocked s => s.setInProgress (some i)

/-- Perform an operation as the host requests it (R28): refused while another is in progress (R26). -/
def perform (i : Instr) (body : State → Res Value) (s : State) : Host.Outcome State Fault Refusal :=
  if s.inProgress.isSome then .refused .requestOverlap
  else .next (finish i (body (begin s)))

/-- Give an operation's value its place among the results. -/
def Res.value {α : Type} (r : Res α) (f : α → Value) : Res Value :=
  r.bind fun v s => .ok (f v) s

end Sys2Proof.Machine
end

