-- ==== Sys2Proof/Machine/Debug.lean ====
section
/-! DEFINITION. The debug access engine of 43_debug_access.md: core control (R160 to R169), memory access
(R170 to R178), CORE_RESET_HALT (R179), CLOCK_SPEED (R180). -/

namespace Sys2Proof.Machine

/-- R160. -/
def opStatus (s : State) : Res RunState :=
  (prologue s).bind fun _ s =>
  (command .status Config.respLenStatus s).bind fun b s =>
  let r := decodeRun (b.getD 0 0)
  .ok r (s.setRun r)

/-- R161: the halt primitive is the single-step command. -/
def opHalt (s : State) : Res Unit := ackCommand .stepCore Config.respLenAck .halted s

/-- R162. -/
def opStep (s : State) : Res Unit := ackCommand .stepCore Config.respLenAck .halted s

/-- R163. -/
def opRun (s : State) : Res Unit := ackCommand .run Config.respLenAck .running s

/-- R164. -/
def opReset (s : State) : Res Unit := ackCommand .reset Config.respLenAck .unknown s

/-- R165. -/
def opHardReset (s : State) : Res Unit := ackCommand .hardReset Config.respLenAck .unknown s

/-- R166. -/
def opForceDebug (s : State) : Res Unit := ackCommand .forceDebug s.cfg.respLenForceDebug .halted s

/-- R167. -/
def opCoreId (s : State) : Res Word :=
  (prologue s).bind fun _ s =>
  (command .coreId s.cfg.respLenCoreId s).bind fun b s =>
  (fields 4 b s).bind fun b s =>
  .ok (le32 b 0) s

/-- R170: the data is the second word; the first, the status/echo word, is discarded. -/
def opRead32 (a : Word) (s : State) : Res Word :=
  (prologue s).bind fun _ s =>
  (command (.read32 a) Config.respLenRead32 s).bind fun b s =>
  .ok (le32 b 4) s

/-- R171: WriteStep, the one-frame write; no prologue, no state. -/
def writeStep (a w : Word) (s : State) : Res (List Byte) :=
  command (.write32 a w) Config.respLenWrite32 s

/-- R173, R174: the write with its halt/resume bracket; the earliest error wins. -/
def opWrite32 (a w : Word) (s : State) : Res Unit :=
  (prologue s).bind fun _ s =>
  let pre := s.session.run
  (if pre = .running then (opHalt (s.setSeq 1)).attempt else .ok none s).bind fun herr s =>
  (if herr = none then (writeStep a w (s.setSeq 2)).attempt else .ok none s).bind fun werr s =>
  (if pre = .running then (opRun (s.setSeq 3)).attempt else .ok none s).bind fun rerr s =>
  raiseIf (herr.or (werr.or rerr)) (s.setSeq 0)

/-- R175: CPU_ID always reads, and caches the value read. -/
def opCpuId (s : State) : Res Word :=
  (prologue s).bind fun _ s =>
  (opRead32 s.cfg.cpuidAddr (s.setSeq 1)).bind fun v s =>
  .ok v (s.setCpuid v)

/-- R176, R177. -/
def opRead16 (a : Word) (s : State) : Res Half :=
  (prologue s).bind fun _ s =>
  if isOdd a then .err (.unalignedAccess a) s
  else
    (opRead32 (wordAddr a) (s.setSeq 1)).bind fun w s =>
    .ok (halfOf s.cfg.read16Mask a w) s

/-- R179, step 3: `S.run <- Unknown` whether or not the write of AIRCR raises. -/
def resetWrite (s : State) : Res Unit :=
  (opWrite32 s.cfg.aircrAddr s.cfg.aircrResetWord s).attempt.bind fun e s =>
  raiseIf e (s.setRun .unknown)

/-- R179: each WRITE32 has its own bracket; the read-back value is discarded. -/
def opCoreResetHalt (s : State) : Res Unit :=
  (prologue s).bind fun _ s =>
  (opWrite32 s.cfg.dhcsrAddr s.cfg.dhcsrHaltWord (s.setSeq 1)).bind fun _ s =>
  (opWrite32 s.cfg.demcrAddr s.cfg.demcrHaltAfterResetWord (s.setSeq 2)).bind fun _ s =>
  (resetWrite (s.setSeq 3)).bind fun _ s =>
  (opRead32 s.cfg.aircrAddr (s.setSeq 4)).bind fun _ s =>
  .ok () (s.setSeq 0)

/-- R180: never succeeds, never sends a frame. -/
def opClockSpeed (s : State) : Res Unit :=
  (prologue s).bind fun _ s => .err (.notImplemented "clock-speed") s

/-- STATUS. -/
def execStatus (s : State) : Host.Outcome State Fault Refusal :=
  perform .status (fun s => (opStatus s).value .runState) s

/-- HALT. -/
def execHalt (s : State) : Host.Outcome State Fault Refusal :=
  perform .halt (fun s => (opHalt s).value fun _ => .unit) s

/-- STEP. -/
def execStep (s : State) : Host.Outcome State Fault Refusal :=
  perform .step (fun s => (opStep s).value fun _ => .unit) s

/-- RUN. -/
def execRun (s : State) : Host.Outcome State Fault Refusal :=
  perform .run (fun s => (opRun s).value fun _ => .unit) s

/-- RESET. -/
def execReset (s : State) : Host.Outcome State Fault Refusal :=
  perform .reset (fun s => (opReset s).value fun _ => .unit) s

/-- HARD_RESET. -/
def execHardReset (s : State) : Host.Outcome State Fault Refusal :=
  perform .hardReset (fun s => (opHardReset s).value fun _ => .unit) s

/-- FORCE_DEBUG. -/
def execForceDebug (s : State) : Host.Outcome State Fault Refusal :=
  perform .forceDebug (fun s => (opForceDebug s).value fun _ => .unit) s

/-- CORE_ID. -/
def execCoreId (s : State) : Host.Outcome State Fault Refusal :=
  perform .coreId (fun s => (opCoreId s).value .word) s

/-- READ32. -/
def execRead32 (a : Word) (s : State) : Host.Outcome State Fault Refusal :=
  perform (.read32 a) (fun s => (opRead32 a s).value .word) s

/-- WRITE32. -/
def execWrite32 (a w : Word) (s : State) : Host.Outcome State Fault Refusal :=
  perform (.write32 a w) (fun s => (opWrite32 a w s).value fun _ => .unit) s

/-- READ16. -/
def execRead16 (a : Word) (s : State) : Host.Outcome State Fault Refusal :=
  perform (.read16 a) (fun s => (opRead16 a s).value .half) s

/-- CPU_ID. -/
def execCpuId (s : State) : Host.Outcome State Fault Refusal :=
  perform .cpuId (fun s => (opCpuId s).value .word) s

/-- CORE_RESET_HALT. -/
def execCoreResetHalt (s : State) : Host.Outcome State Fault Refusal :=
  perform .coreResetHalt (fun s => (opCoreResetHalt s).value fun _ => .unit) s

/-- CLOCK_SPEED. -/
def execClockSpeed (s : State) : Host.Outcome State Fault Refusal :=
  perform .clockSpeed (fun s => (opClockSpeed s).value fun _ => .unit) s

end Sys2Proof.Machine
end

