-- ==== Sys2Proof/Machine/ChipId.lean ====
section
/-! DEFINITION. The chip identification resolver of 44_chip_identification.md: CORTEX_PART_NUMBER (R220), CHIP_ID
(R221), DEV_ID (R222), FAMILY_GROUP (R223), FLASH_SIZE (R224). -/

namespace Sys2Proof.Machine

/-- R220: the CPUID register is read only while the cache is 0. -/
def opCortexPartNumber (s : State) : Res CoreType :=
  (prologue s).bind fun _ s =>
  (if s.session.cpuid = 0 then opCpuId (s.setSeq 1) else .ok s.session.cpuid s).bind fun _ s =>
  .ok (partDecode s.cfg (partField s.session.cpuid)) s

/-- R221: never cached; every core type selects an address (90 C5). -/
def opChipId (s : State) : Res Word :=
  (prologue s).bind fun _ s =>
  (opCortexPartNumber (s.setSeq 1)).bind fun c s =>
  opRead32 (chipIdAddr s.cfg c) (s.setSeq 2)

/-- R222. -/
def opDevId (s : State) : Res Code12 :=
  (prologue s).bind fun _ s =>
  (opChipId (s.setSeq 1)).bind fun v s =>
  .ok (familyField v) s

/-- R223: a pure lookup with no prologue. -/
def opFamilyGroup (f : Code12) (s : State) : Res Group :=
  .ok (groupOf s.cfg f) s

/-- R224, R229: the halfword is returned as read. -/
def opFlashSize (s : State) : Res Half :=
  (prologue s).bind fun _ s =>
  (opDevId (s.setSeq 1)).bind fun f s =>
  match flashAddrOf s.cfg f with
  | none => .err (.unknownCore f) s
  | some a => opRead16 a (s.setSeq 2)

/-- CORTEX_PART_NUMBER. -/
def execCortexPartNumber (s : State) : Host.Outcome State Fault Refusal :=
  perform .cortexPartNumber (fun s => (opCortexPartNumber s).value .coreType) s

/-- CHIP_ID. -/
def execChipId (s : State) : Host.Outcome State Fault Refusal :=
  perform .chipId (fun s => (opChipId s).value .word) s

/-- DEV_ID. -/
def execDevId (s : State) : Host.Outcome State Fault Refusal :=
  perform .devId (fun s => (opDevId s).value .family) s

/-- FAMILY_GROUP. -/
def execFamilyGroup (f : Code12) (s : State) : Host.Outcome State Fault Refusal :=
  perform (.familyGroup f) (fun s => (opFamilyGroup f s).value .group) s

/-- FLASH_SIZE. -/
def execFlashSize (s : State) : Host.Outcome State Fault Refusal :=
  perform .flashSize (fun s => (opFlashSize s).value .half) s

end Sys2Proof.Machine
end

