-- ==== Sys2Proof/Machine/Codec.lean ====
section
/-! DEFINITION. The probe queries of 41_codec.md: VERSION (R104), TARGET_VOLTAGE (R105, R106). -/

namespace Sys2Proof.Machine

/-- R104: the version a 6-byte reply carries; bytes 2 to 5 are ignored. -/
def versionOf (b : List Byte) : Version :=
  let v := versionWord b
  let major := versionMajor v
  let jtag := versionJtag v
  let swim := versionSwim v
  { major, jtag, swim, text := versionText major.toNat jtag.toNat swim.toNat }

/-- R104. -/
def opVersion (s : State) : Res Version :=
  (prologue s).bind fun _ s =>
  (command .version Config.respLenVersion s).bind fun b s =>
  .ok (versionOf b) s

/-- R105: "reference = 0 raises even when measured = 0"; negative samples are legal. -/
def opTargetVoltage (s : State) : Res Voltage :=
  (prologue s).bind fun _ s =>
  (command .targetVoltage s.cfg.respLenVoltage s).bind fun b s =>
  (fields 8 b s).bind fun b s =>
  let reference := sle32 b 0
  let measured := sle32 b 4
  if reference = 0 then .err (.measuredVoltageZero measured) s
  else .ok { reference, measured, volts := voltageVolts reference measured } s

/-- VERSION. -/
def execVersion (s : State) : Host.Outcome State Fault Refusal :=
  perform .version (fun s => (opVersion s).value .version) s

/-- TARGET_VOLTAGE. -/
def execTargetVoltage (s : State) : Host.Outcome State Fault Refusal :=
  perform .targetVoltage (fun s => (opTargetVoltage s).value .voltage) s

/-- R106: the host's floating-point reading of a voltage, by the configuration function; no operation of
the block uses it. -/
def Voltage.hostFloat (v : Voltage) : Float := Config.toFloat v.volts

end Sys2Proof.Machine
end

