-- ==== Sys2Proof/Machine/ModeSession.lean ====
section
/-! DEFINITION. The mode and session controller of 42_mode_session.md: MODE (R132), EXIT_DFU (R133),
ENTER_SWD (R134), SESSION_INIT (R135) and its abort at session creation (R136), CLOSE (R137). -/

namespace Sys2Proof.Machine

/-- R132: only B[0] is read, whatever the reply length. -/
def opMode (s : State) : Res Mode :=
  (prologue s).bind fun _ s =>
  (command .mode s.cfg.respLenMode s).bind fun b s =>
  (fields 1 b s).bind fun b s =>
  .ok (decodeMode (b.getD 0 0)) s

/-- R133: sent, and nothing received. -/
def opExitDfu (s : State) : Res Unit :=
  (prologue s).bind fun _ s => send (encodeFrame s.cfg .exitDfu) s

/-- R134: a reply is received, and discarded, only when RESP_LEN_ENTER_SWD is above 0. -/
def opEnterSwd (s : State) : Res Unit :=
  (prologue s).bind fun _ s =>
  (command .enterSwd s.cfg.respLenEnterSwd s).bind fun _ s =>
  .ok () s

/-- R135. An error of step 2 is ignored; one of another step ends the sequence. -/
def opSessionInit (s : State) : Res Unit :=
  (prologue s).bind fun _ s =>
  (opMode (s.setSeq 1)).bind fun m1 s =>
  (if m1 = .dfu then (opExitDfu (s.setSeq 2)).attempt else .ok none (s.setSeq 2)).bind fun _ s =>
  (opMode (s.setSeq 3)).bind fun m2 s =>
  (if m2 = .debug then .ok () (s.setSeq 4) else opEnterSwd (s.setSeq 4)).bind fun _ s =>
  (opStatus (s.setSeq 5)).bind fun _ s =>
  .ok () (s.setSeq 0)

/-- R137: no prologue; on a closed session it does nothing. -/
def opClose (s : State) : Res Unit :=
  .ok () (if s.session.isOpen then closeTransport s else s)

/-- MODE. -/
def execMode (s : State) : Host.Outcome State Fault Refusal :=
  perform .mode (fun s => (opMode s).value .mode) s

/-- EXIT_DFU. -/
def execExitDfu (s : State) : Host.Outcome State Fault Refusal :=
  perform .exitDfu (fun s => (opExitDfu s).value fun _ => .unit) s

/-- ENTER_SWD. -/
def execEnterSwd (s : State) : Host.Outcome State Fault Refusal :=
  perform .enterSwd (fun s => (opEnterSwd s).value fun _ => .unit) s

/-- SESSION_INIT by host code 0x04 (D34): an error does not close the session (R136). -/
def execSessionInit (s : State) : Host.Outcome State Fault Refusal :=
  perform .sessionInit (fun s => (opSessionInit s).value fun _ => .unit) s

/-- CLOSE. -/
def execClose (s : State) : Host.Outcome State Fault Refusal :=
  perform .close (fun s => (opClose s).value fun _ => .unit) s

/-- R290, R136: how the opening of a session comes out: handed to the host, or its transport closed and
the session discarded, or still blocked. DESIGN CHOICE (log entry 33): the open request is the registry's, out
of scope, and no rule says where or as what value its answer stands. It stands on the result port of R28, as
`Ok(unit)` for the session and as `Err(e)` for the error of the opening. -/
def finishOpening (r : Res Unit) : State :=
  match r with
  | .ok _ s => ((s.setResult (some (.ok .unit))).setSeq 0).setPhase .ready
  | .err e s => ((((closeTransport s).setResult (some (.err e))).setSeq 0)).setPhase .discarded
  | .blocked s => s.setInProgress (some .sessionInit)

/-- R290: session creation runs SESSION_INIT. -/
def openSession (s : State) : Host.Outcome State Fault Refusal :=
  .next (finishOpening (opSessionInit (begin s)))

end Sys2Proof.Machine
end

