-- ==== Sys2Proof/Machine/Dispatch.lean ====
section
/-! DEFINITION. The dispatch: one arm per constructor of Instr, each one direct call of its meaning. -/

namespace Sys2Proof.Machine

/-- The meaning of one host operation (R4, R28). -/
def exec (i : Instr) (s : State) : Host.Outcome State Fault Refusal :=
  match i with
  | .mode => Sys2Proof.Machine.execMode s
  | .exitDfu => Sys2Proof.Machine.execExitDfu s
  | .enterSwd => Sys2Proof.Machine.execEnterSwd s
  | .sessionInit => Sys2Proof.Machine.execSessionInit s
  | .close => Sys2Proof.Machine.execClose s
  | .version => Sys2Proof.Machine.execVersion s
  | .targetVoltage => Sys2Proof.Machine.execTargetVoltage s
  | .status => Sys2Proof.Machine.execStatus s
  | .halt => Sys2Proof.Machine.execHalt s
  | .step => Sys2Proof.Machine.execStep s
  | .run => Sys2Proof.Machine.execRun s
  | .reset => Sys2Proof.Machine.execReset s
  | .hardReset => Sys2Proof.Machine.execHardReset s
  | .forceDebug => Sys2Proof.Machine.execForceDebug s
  | .coreId => Sys2Proof.Machine.execCoreId s
  | .read32 a => Sys2Proof.Machine.execRead32 a s
  | .write32 a w => Sys2Proof.Machine.execWrite32 a w s
  | .read16 a => Sys2Proof.Machine.execRead16 a s
  | .cpuId => Sys2Proof.Machine.execCpuId s
  | .coreResetHalt => Sys2Proof.Machine.execCoreResetHalt s
  | .cortexPartNumber => Sys2Proof.Machine.execCortexPartNumber s
  | .chipId => Sys2Proof.Machine.execChipId s
  | .devId => Sys2Proof.Machine.execDevId s
  | .familyGroup f => Sys2Proof.Machine.execFamilyGroup f s
  | .flashSize => Sys2Proof.Machine.execFlashSize s
  | .clockSpeed => Sys2Proof.Machine.execClockSpeed s

end Sys2Proof.Machine
end

