-- ==== Sys2Proof/Machine/Step.lean ====
section
/-! DEFINITION. One step of a session: opening it (R290), serving the next host request (R28), waiting
(R291). -/

namespace Sys2Proof.Machine

/-- A request that names no operation is refused: no frame, no state write (R81). -/
def refuseRequest : RequestReject → Refusal
  | .reservedCode => .reservedCode
  | .badArguments => .badArguments

/-- Serve the next request of the host; with none, the block waits (R291). A request that names no operation is
refused (R81). DESIGN CHOICE (log entry 31): a refusal is no next state, so the refused request stays first on
the port and no request behind it is served. -/
def serve (s : State) : Host.Outcome State Fault Refusal :=
  match s.requests with
  | [] => .next s
  | r :: rest =>
    match decodeRequest r with
    | .error e => .refused (refuseRequest e)
    | .ok i => exec i (s.setRequests rest)

/-- A session whose operation is blocked: a hang (R300), and a request meanwhile is refused (R26). -/
def stuck (s : State) : Host.Outcome State Fault Refusal :=
  match s.requests with
  | [] => .fault .hang
  | _ :: _ => .refused .requestOverlap

/-- One step of the session. -/
def step (s : State) : Host.Outcome State Fault Refusal :=
  if s.inProgress.isSome then stuck s
  else if s.phase = .opening then openSession s
  else serve s

/-- The request that stands for an opcode-table word: the one that names the instruction the decoder
reads from it, or, where it reads none, a reserved code (R81). -/
def requestOfWord (nbits w : Nat) : Request :=
  match decodeTableWord nbits w with
  | some i => encodeRequest i
  | none => ⟨0x00, []⟩

/-- The state whose very next step serves that request: the session is opened and idle, and the request
stands first on the port (log entry 3). -/
def State.withFetchWord (s : State) (nbits w : Nat) : State :=
  ((s.setPhase .ready).setInProgress none).setRequests (requestOfWord nbits w :: s.requests)

end Sys2Proof.Machine
end

