-- ==== Sys2Proof/Machine/Memory.lean ====
section
/-! DEFINITION. The target's address space (20_memory.md R50) as the environment model of R56 uses it: a
sparse list of (address, byte) pairs in one canonical form. It is no state of the block (R15, R42). -/

namespace Sys2Proof.Machine

/-- R50: the size of the target's byte-addressed space. -/
def addressSpace : Nat := 2 ^ 32

/-- What an address with no entry reads as. Log entry 18: a premise quantifies over memories, and
any contents can be listed, so this value stands for no claim about a target. -/
def unlisted : Byte := 0

/-- The target's memory: the bytes that differ from `unlisted`, by rising address. -/
structure Memory where
  cells : List Host.Cell
deriving DecidableEq, Repr

/-- The canonical form: addresses strictly rise, lie in the address space, and no entry equals `unlisted`. -/
def Memory.wf (m : Memory) : Bool :=
  decide (m.cells.Pairwise fun x y => x.1 < y.1) &&
    m.cells.all fun c => c.2 != unlisted && decide (c.1 < addressSpace)

/-- The byte at an address. -/
def Memory.readByte (m : Memory) (a : Nat) : Byte := (m.cells.lookup a).getD unlisted

/-- Put a byte in its place among the cells; `unlisted` removes the entry. -/
def putCell (a : Nat) (b : Byte) : List Host.Cell → List Host.Cell
  | [] => if b = unlisted then [] else [(a, b)]
  | (k, v) :: rest =>
    if a < k then (if b = unlisted then (k, v) :: rest else (a, b) :: (k, v) :: rest)
    else if a = k then (if b = unlisted then rest else (a, b) :: rest)
    else (k, v) :: putCell a b rest

/-- Write one byte. -/
def Memory.writeByte (m : Memory) (a : Nat) (b : Byte) : Memory := ⟨putCell a b m.cells⟩

/-- R55: an address whose bits [1:0] are 00. -/
def aligned (a : Word) : Bool := a.extractLsb' 0 2 == 0

/-- `MemRead(a, 4)` of R15, at an aligned address. DESIGN CHOICE (log entry 32): byte a is bits [7:0]. The spec
makes no claim on the order of a word's bytes in the target's memory (R53); R56 gives the reply's alone. -/
def Memory.read32 (m : Memory) (a : Word) : Word :=
  m.readByte (a.toNat + 3) ++ m.readByte (a.toNat + 2) ++ m.readByte (a.toNat + 1) ++ m.readByte a.toNat

/-- `MemWrite(a, 4, v)` of R15, at an aligned address, in the byte order of `Memory.read32`: DESIGN CHOICE (R53,
log entry 32). -/
def Memory.write32 (m : Memory) (a : Word) (v : Word) : Memory :=
  (((m.writeByte a.toNat (v.extractLsb' 0 8)).writeByte (a.toNat + 1) (v.extractLsb' 8 8)).writeByte
    (a.toNat + 2) (v.extractLsb' 16 8)).writeByte (a.toNat + 3) (v.extractLsb' 24 8)

end Sys2Proof.Machine
end

