-- ==== Sys2Proof/Machine/Environment.lean ====
section
/-! DEFINITION. The environment models the spec gives of what stands behind the transport: the target's
memory (20_memory.md R56, R55) and the probe's operating mode (42_mode_session.md R131). They bind no step
of the block: a statement that needs one names it as a premise (R56, R131, D1). -/

namespace Sys2Proof.Machine

/-- How far a frame got, as the port shows it. -/
inductive Delivery where
  /-- The frame was sent and the reply asked for came. -/
  | replied (bytes : List Byte)
  /-- The frame was sent and no reply was asked for. -/
  | delivered
  /-- The Send or the Recv failed, was cut short or never answered: "the frame may or may not have
  reached the probe" (R169). -/
  | unsure
deriving DecidableEq, Repr

/-- The frames of a run of port events, each with how far it got. -/
def exchanges : List Event → List (Frame × Delivery)
  | [] => []
  | .send _ f (some .ok) :: .recv _ n (some (.ok b)) :: rest =>
    (f, if b.length = n then .replied b else .unsure) :: exchanges rest
  | .send _ f (some .ok) :: .recv _ _ _ :: rest => (f, .unsure) :: exchanges rest
  | .send _ f (some .ok) :: rest => (f, .delivered) :: exchanges rest
  | .send _ f _ :: rest => (f, .unsure) :: exchanges rest
  | .recv _ _ _ :: rest => exchanges rest
  | .close :: rest => exchanges rest

/-- R56, R55, for one frame: what the target's memory may become, and what the reply must carry. A
misaligned address leaves the data read, or the memory written, unconstrained (93 A6). A frame that
may not have arrived may or may not have been performed. -/
def memoryServes (c : Config) (m : Memory) (f : Frame) (d : Delivery) (m' : Memory) : Prop :=
  match decodeFrame c f, d with
  | .ok (.read32 a), .replied b => m' = m ∧ (aligned a → le32 b 4 = m.read32 a)
  | .ok (.write32 a w), .unsure => m'.wf ∧ (aligned a → m' = m ∨ m' = m.write32 a w)
  | .ok (.write32 a w), _ => m'.wf ∧ (aligned a → m' = m.write32 a w)
  | _, _ => m' = m

/-- R56 for a run of port events: a target that obeys the protocol, and whose memory nothing else writes
(log entry 18), takes memory m to m'. -/
def memoryRuns (c : Config) (m : Memory) : List (Frame × Delivery) → Memory → Prop
  | [], m' => m' = m
  | (f, d) :: rest, m' => ∃ m1, memoryServes c m f d m1 ∧ memoryRuns c m1 rest m'

/-- R56 as a premise: the events, seen from target memory m, are those of a target that obeys, and leave
it with memory m'. -/
def TargetObeys (c : Config) (m : Memory) (evs : List Event) (m' : Memory) : Prop :=
  memoryRuns c m (exchanges evs) m'

/-- R131's table for a command the probe has received. EXIT_DFU outside DFU is in no row: its outcome is
free. A target reset is RESET, HARD_RESET or a write of AIRCR (R38). Log entry 19. -/
def modeMoves (c : Config) (p : Mode) (op : FrameOp) (p' : Mode) : Prop :=
  match op with
  | .exitDfu => p = .dfu → p' ≠ .dfu
  | .enterSwd => p' = .debug
  | .reset => p' = p ∨ p' = .dfu
  | .hardReset => p' = p ∨ p' = .dfu
  | .write32 a _ => if a = c.aircrAddr then p' = p ∨ p' = .dfu else p' = p
  | .mode => p' = p
  | .version => p' = p
  | .targetVoltage => p' = p
  | .status => p' = p
  | .stepCore => p' = p
  | .run => p' = p
  | .forceDebug => p' = p
  | .coreId => p' = p
  | .read32 _ => p' = p

/-- R130, R131 for one frame: what the probe's mode may become, and what a MODE reply must say
(a reply of the configured length 0 says nothing). -/
def modeServes (c : Config) (p : Mode) (f : Frame) (d : Delivery) (p' : Mode) : Prop :=
  match decodeFrame c f, d with
  | .ok .mode, .replied b => p' = p ∧ (b ≠ [] → decodeMode (b.getD 0 0) = p)
  | .ok op, .unsure => p' = p ∨ modeMoves c p op p'
  | .ok op, _ => modeMoves c p op p'
  | .error _, _ => p' = p

/-- R131 for a run of frames. -/
def modeRuns (c : Config) (p : Mode) : List (Frame × Delivery) → Mode → Prop
  | [], p' => p' = p
  | (f, d) :: rest, p' => ∃ p1, modeServes c p f d p1 ∧ modeRuns c p1 rest p'

/-- R131 as a premise: the events, seen from a probe in mode p, are those of a probe that makes R131's
transitions, and leave it in mode p'. -/
def ModeObeys (c : Config) (p : Mode) (evs : List Event) (p' : Mode) : Prop :=
  modeRuns c p (exchanges evs) p'

end Sys2Proof.Machine
end

