-- ==== Sys2Proof/Machine/Sessions.lean ====
section
/-! DEFINITION. Several sessions (60_exceptions.md R277): each is one agent with a State of its own. Which one
moves next is not fixed (R62): a schedule names it. -/

namespace Sys2Proof.Machine

/-- Session k takes one step; the others stay (R277). A number that names no session moves nothing. -/
def stepSession (k : Nat) (sessions : List State) : Host.Outcome (List State) Fault Refusal :=
  match sessions[k]? with
  | none => .next sessions
  | some s =>
    match step s with
    | .next t => .next (sessions.set k t)
    | .fault r => .fault r
    | .refused r => .refused r

end Sys2Proof.Machine
end

