-- ==== Sys2Proof/Safety.lean ====
section
/-! DEFINITION. The terms the statements use: when an operation may run, what the transport answers, the
state a served command leaves, the port events of an operation, and the invariant of a session. -/

namespace Sys2Proof.Machine

/-- No operation is in progress (R26). -/
def Ready (s : State) : Prop := s.inProgress = none

/-- R276: an open session that may take an operation. -/
def OpenReady (s : State) : Prop := Ready s ∧ s.session.isOpen = true

/-- The transport will answer the next Send with ok and, if n > 0, the next Recv(n) with the n bytes b. -/
def Answers (s : State) (n : Nat) (b : List Byte) : Prop :=
  s.sends.head? = some .ok ∧
    if n = 0 then b = [] else s.recvs.head? = some (.ok b) ∧ b.length = n

/-- The port events of a `Transact` answered with b (R13). -/
def exchangeEvents (s : State) (f : Frame) (n : Nat) (b : List Byte) : List Event :=
  .send (outEp s.cfg s.session.variant) f (some .ok) ::
    if n = 0 then [] else [.recv s.cfg.inEp n (some (.ok b))]

/-- The state after a `Transact` answered with b: the answers are used up and the port log is longer. -/
def State.exchanged (s : State) (f : Frame) (n : Nat) (b : List Byte) : State :=
  { s with
    sends := s.sends.tail
    recvs := if n = 0 then s.recvs else s.recvs.tail
    trace := s.trace ++ exchangeEvents s f n b }

/-- One served command of a sequence: its frame, the length asked for, the reply. -/
abbrev Exchange := Frame × Nat × List Byte

/-- The state after a sequence of served commands. -/
def State.exchangedAll (s : State) : List Exchange → State
  | [] => s
  | (f, n, b) :: rest => (s.exchanged f n b).exchangedAll rest

/-- The transport will answer a whole sequence of commands. -/
def AnswersAll (s : State) : List Exchange → Prop
  | [] => True
  | (f, n, b) :: rest => Answers s n b ∧ AnswersAll (s.exchanged f n b) rest

/-- R77: the reply length of a command. -/
def respLen (c : Config) : FrameOp → Nat
  | .mode => c.respLenMode
  | .exitDfu => 0
  | .enterSwd => c.respLenEnterSwd
  | .version => 6
  | .targetVoltage => c.respLenVoltage
  | .status => 2
  | .stepCore => 2
  | .run => 2
  | .reset => 2
  | .hardReset => 2
  | .forceDebug => c.respLenForceDebug
  | .coreId => c.respLenCoreId
  | .read32 _ => 8
  | .write32 _ _ => 8

/-- A command under the configuration of a state, answered with b. -/
def served (s : State) (op : FrameOp) (b : List Byte) : Exchange :=
  (encodeFrame s.cfg op, respLen s.cfg op, b)

/-- The state after an operation ended with a result (R272: seq returns to 0). -/
def State.answered (s : State) (r : Result) : State :=
  { s with result := some r, session := { s.session with seq := 0 } }

/-- The port events between two states of a run. -/
def newEvents (s t : State) : List Event := t.trace.drop s.trace.length

/-- The frames offered among port events, in order. -/
def framesOf : List Event → List Frame
  | [] => []
  | .send _ f _ :: rest => f :: framesOf rest
  | .recv _ _ _ :: rest => framesOf rest
  | .close :: rest => framesOf rest

/-- The frames an operation offered, in order. -/
def newFrames (s t : State) : List Frame := framesOf (newEvents s t)

/-- The command of the first frame an operation offers on an open session (R79, R135, R173 to R179, R220 to
R224); none where it offers none. -/
def firstCommand (s : State) : Instr → Option FrameOp
  | .mode => some .mode
  | .exitDfu => some .exitDfu
  | .enterSwd => some .enterSwd
  | .sessionInit => some .mode
  | .close => none
  | .version => some .version
  | .targetVoltage => some .targetVoltage
  | .status => some .status
  | .halt => some .stepCore
  | .step => some .stepCore
  | .run => some .run
  | .reset => some .reset
  | .hardReset => some .hardReset
  | .forceDebug => some .forceDebug
  | .coreId => some .coreId
  | .read32 a => some (.read32 a)
  | .write32 a w => some (if s.session.run = .running then .stepCore else .write32 a w)
  | .read16 a => if isOdd a then none else some (.read32 (wordAddr a))
  | .cpuId => some (.read32 s.cfg.cpuidAddr)
  | .coreResetHalt =>
    some (if s.session.run = .running then .stepCore else .write32 s.cfg.dhcsrAddr s.cfg.dhcsrHaltWord)
  | .cortexPartNumber => if s.session.cpuid = 0 then some (.read32 s.cfg.cpuidAddr) else none
  | .chipId => some (.read32 (firstIdAddr s))
  | .devId => some (.read32 (firstIdAddr s))
  | .familyGroup _ => none
  | .flashSize => some (.read32 (firstIdAddr s))
  | .clockSpeed => none
where
  /-- R220, R221: the CPUID register while it is not yet read, else the chip-identification register. -/
  firstIdAddr (s : State) : Word :=
    if s.session.cpuid = 0 then s.cfg.cpuidAddr
    else chipIdAddr s.cfg (partDecode s.cfg (partField s.session.cpuid))

/-- The operations that go on after a failed first frame, with the cache Running: the bracket of WRITE32
still sends RUN (R172, R273). -/
def bracketed (s : State) (i : Instr) : Prop :=
  s.session.run = .running ∧ (i = .coreResetHalt ∨ ∃ a w, i = .write32 a w)

/-- R262, R263, R268: the error a failed use of the port stands for. -/
def Event.error : Event → Option Error
  | .send _ _ (some (.fail e)) => some (.transportSend e)
  | .send _ _ (some .ok) => none
  | .send _ _ none => none
  | .recv _ _ (some (.fail e)) => some (.transportRecv (.value e))
  | .recv _ n (some (.ok b)) => if b.length = n then none else some (.transportRecv .short)
  | .recv _ _ none => none
  | .close => none

/-- The error of the first use of the port that failed, in the order of the port. -/
def firstError (evs : List Event) : Option Error := evs.findSome? Event.error

/-- The event offers this frame. -/
def Event.offers (f : Frame) : Event → Bool
  | .send _ g _ => g == f
  | .recv _ _ _ => false
  | .close => false

/-- R260: the transport's two errors. -/
def Error.isTransport : Error → Bool
  | .closed => false
  | .transportSend _ => true
  | .transportRecv _ => true
  | .unalignedAccess _ => false
  | .measuredVoltageZero _ => false
  | .unknownCore _ => false
  | .notImplemented _ => false

/-- A use of the port that was answered; the transport's close has no answer. -/
def Event.isAnswered : Event → Bool
  | .send _ _ a => a.isSome
  | .recv _ _ a => a.isSome
  | .close => false

/-- Every use of the port so far was answered and the transport was not closed. -/
def allAnswered (evs : List Event) : Bool := evs.all Event.isAnswered

/-- R61, R13: each Recv directly follows a Send answered ok, a use of the port that is never answered is
the last, and nothing follows the transport's close. -/
def portOrdered : List Event → Bool
  | [] => true
  | .send _ _ (some .ok) :: .recv _ _ a :: rest => (a.isSome || rest.isEmpty) && portOrdered rest
  | .send _ _ (some _) :: rest => portOrdered rest
  | .send _ _ none :: rest => rest.isEmpty
  | .recv _ _ _ :: _ => false
  | .close :: rest => rest.isEmpty

/-- R71, R76: a frame offered is FRAME_LEN bytes and went to OUT_EP of the variant, a Recv to IN_EP. -/
def Event.wellFormed (c : Config) (v : Variant) : Event → Bool
  | .send ep f _ => f.length == Config.frameLen && ep == outEp c v
  | .recv ep _ _ => ep == c.inEp
  | .close => true

/-- R71, R76, for every use of the port so far. -/
def framesWellFormed (s : State) : Bool := s.trace.all (Event.wellFormed s.cfg s.session.variant)

/-- The invariant of a session: seq is 0 when no operation is in progress (R25) and never above 5 (R135);
a blocked operation has no result (R300, R305); the transport is held exactly while the session is open
(R136, R137); a discarded session is closed (R136); while the session opens, the record is as created
(R290); and the port was used as R61, R71 and R76 say. -/
structure SessionInv (s : State) : Prop where
  seqIdle : s.inProgress = none → s.session.seq = 0
  seqBound : s.session.seq ≤ 5
  blockedNoResult : s.inProgress ≠ none → s.result = none
  claimedIffOpen : s.claimed = s.session.isOpen
  discardedClosed : s.phase = .discarded → s.session.isOpen = false
  openingAsCreated : s.phase = .opening →
    s.session.isOpen = true ∧ s.session.run = .unknown ∧ s.session.cpuid = 0
  ordered : portOrdered s.trace = true
  idleAnswered : s.inProgress = none → s.session.isOpen = true → allAnswered s.trace = true
  frames : framesWellFormed s = true

end Sys2Proof.Machine
end

