-- ==== Sys2Proof/Certificates/Slice0/Obligations.lean ====
section
/-! DEFINITION. The statements for the provers. Each docstring names the rules it rests on. -/

open Sys2Proof Sys2Proof.Machine

/-- R70: a request decodes to the operation it encodes, and a request that decodes is that operation's
own encoding: no argument bit is dropped and no two requests name one operation. The bits of a request
are the model's layout (log entry 10). -/
def Obligations.RequestCodecAgrees : Prop :=
  (∀ i : Instr, decodeRequest (encodeRequest i) = .ok i) ∧
    ∀ (r : Request) (i : Instr), decodeRequest r = .ok i → r = encodeRequest i

/-- R81: a request whose code is 0x00 or 0x1B to 0xFF is refused whatever its arguments, when the session
would otherwise serve it. -/
def Obligations.ReservedCodesRefused : Prop :=
  ∀ (s : State) (r : Request) (rest : List Request), s.inProgress = none → s.phase ≠ .opening →
    s.requests = r :: rest → (r.code = 0 ∨ 0x1B ≤ r.code.toNat) → step s = .refused .reservedCode

/-- R80, R101: every frame the block can emit decodes to the command that made it, with every operand,
under a configuration whose (byte 0, byte 1) pairs differ; the default one is such. -/
def Obligations.FrameDecodeEncode : Prop :=
  Config.default.framesDistinct = true ∧
    ∀ (c : Config) (op : FrameOp), c.framesDistinct = true → decodeFrame c (encodeFrame c op) = .ok op

/-- R80: the frame checker accepts only frames the block produces: a frame that decodes to a command is
byte for byte that command's encoding. -/
def Obligations.FrameCheckerExact : Prop :=
  ∀ (c : Config) (f : Frame) (op : FrameOp), decodeFrame c f = .ok op → f = encodeFrame c op

/-- R71, R72, R73, R74: frames are 16 bytes; the address of READ32 and WRITE32 stands little-endian at
bytes 2 to 5 and the word at bytes 6 to 9; the bytes no format assigns are 0x00. -/
def Obligations.FrameLayout : Prop :=
  ∀ (c : Config), (∀ op : FrameOp, (encodeFrame c op).length = 16 ∧
      ∀ k, op.assigned ≤ k → (encodeFrame c op).getD k 0 = 0) ∧
    (∀ a : Word, le32 (encodeFrame c (.read32 a)) 2 = a) ∧
    ∀ a w : Word, le32 (encodeFrame c (.write32 a w)) 2 = a ∧ le32 (encodeFrame c (.write32 a w)) 6 = w

/-- Sanity: words written out from the spec decode to their operations: the table's 24-bit words of R79
and host codes of R70. The default command bytes are PRESUMED (log entry 7); what an 8-bit and a 24-bit
table word stand for is the model's choice (log entry 12). -/
def Obligations.TableWordsDecode : Prop :=
  decodeTableWord 24 0xF50000 = some .mode ∧ decodeTableWord 24 0xF230A3 = some .enterSwd ∧
    decodeTableWord 24 0xF10000 = some .version ∧ decodeTableWord 24 0xF20100 = some .status ∧
    decodeTableWord 24 0xF23C02 = some .hardReset ∧ decodeTableWord 24 0xF23600 = some (.read32 0) ∧
    decodeTableWord 24 0xF23500 = some (.write32 0 0) ∧ decodeTableWord 8 0x15 = some .cortexPartNumber ∧
    decodeTableWord 8 0x19 = some .flashSize ∧ decodeTableWord 8 0x1B = none

/-- R28, R291: a session that is open to requests runs the operation its next request names, and with no
request it waits. That one step serves one whole request, and that a waiting session takes a step which
changes nothing, are the model's choices (log entries 1 and 27). -/
def Obligations.StepRunsRequest : Prop :=
  ∀ s : State, s.inProgress = none → s.phase ≠ .opening →
    (s.requests = [] → step s = .next s) ∧
    ∀ (r : Request) (rest : List Request) (i : Instr), s.requests = r :: rest →
      decodeRequest r = .ok i → step s = exec i (s.setRequests rest)

/-- R42, R290, R291: after reset the session is open, its run state Unknown, its CPUID cache 0 and its
sequencer 0, SESSION_INIT is still to run, and the invariant of a session holds. The field that says so,
and one step for a whole operation, are the model's (log entries 1 and 3). -/
def Obligations.ResetState : Prop :=
  State.reset.session.isOpen = true ∧ State.reset.session.run = .unknown ∧
    State.reset.session.cpuid = 0 ∧ State.reset.session.seq = 0 ∧ State.reset.phase = .opening ∧
    SessionInv State.reset

/-- R61, R21, R25, R71, R76, R136, R290, R300: every step keeps the invariant of a session. The fields for the
opening, the transport handle and the port log are the model's (log entries 3 and 14). -/
def Obligations.StepKeepsSessionInv : Prop :=
  ∀ s t : State, SessionInv s → step s = .next t → SessionInv t

/-- R77, R268: the fields of an operation are read from the bytes received wherever the reply holds them, so
that a reply of n bytes or more is read as it is. A byte that a reply of a shorter configured length does
not hold is a free value, as the model's choice (log entry 11). -/
def Obligations.ReplyFields : Prop :=
  ∀ (n : Nat) (b : List Byte) (k : Nat), (n ≤ b.length → filled n b k = b) ∧
    (filled n b k).length = max n b.length ∧ (∀ i, i < b.length → (filled n b k).getD i 0 = b.getD i 0) ∧
    ∀ i, b.length ≤ i → i < n → (filled n b k).getD i 0 = Config.missingByte (k + (i - b.length))

/-- R132, R78: MODE returns the mode the first reply byte names, for every reply, and changes nothing but
the ports. With RESP_LEN_MODE = 0 no byte comes, and the mode is that of a free value (log entry 11). -/
def Obligations.ModeResult : Prop :=
  ∀ (s : State) (b : List Byte), OpenReady s → Answers s s.cfg.respLenMode b →
    let x := (filled 1 b s.drawn).getD 0 0
    let t := (s.exchanged (encodeFrame s.cfg .mode) s.cfg.respLenMode b).setDrawn (s.drawn + (1 - b.length))
    (∃ m : Mode, exec .mode s = .next (t.answered (.ok (.mode m))) ∧
      (m = .dfu ↔ x = 0x00) ∧ (m = .mass ↔ x = 0x01) ∧ (m = .debug ↔ x = 0x02)) ∧
    (1 ≤ s.cfg.respLenMode → x = b.getD 0 0 ∧ t.drawn = s.drawn)

/-- R133, R134, R303: EXIT_DFU and, with RESP_LEN_ENTER_SWD = 0, ENTER_SWD send their frame and receive
nothing: the answers to Recvs are left as they were. With RESP_LEN_ENTER_SWD > 0 the reply is received
and discarded. -/
def Obligations.FireAndForget : Prop :=
  ∀ s : State, OpenReady s → s.sends.head? = some .ok →
    (exec .exitDfu s = .next ((s.exchanged (encodeFrame s.cfg .exitDfu) 0 []).answered (.ok .unit)) ∧
      (s.exchanged (encodeFrame s.cfg .exitDfu) 0 []).recvs = s.recvs) ∧
    ∀ b : List Byte, Answers s s.cfg.respLenEnterSwd b →
      exec .enterSwd s = .next ((s.exchanged (encodeFrame s.cfg .enterSwd) s.cfg.respLenEnterSwd b).answered
        (.ok .unit))

/-- R135: SESSION_INIT with every command answered: MODE; EXIT_DFU only if that mode was DFU; MODE again
in any case; ENTER_SWD only if that second mode was not Debug; STATUS, whose byte becomes the cached run
state. With RESP_LEN_MODE = 0 the two modes are those of free values (log entry 11). -/
def Obligations.SessionInitCompletes : Prop :=
  ∀ (s : State) (b1 b2 b3 be : List Byte),
    let m1 := (filled 1 b1 s.drawn).getD 0 0
    let m2 := (filled 1 b2 (s.drawn + (1 - b1.length))).getD 0 0
    let ex := [served s .mode b1] ++
      (if m1 = 0x00 then [served s .exitDfu []] else []) ++ [served s .mode b2] ++
      (if m2 = 0x02 then [] else [served s .enterSwd be]) ++ [served s .status b3]
    let drawn := s.drawn + (1 - b1.length) + (1 - b2.length)
    OpenReady s → AnswersAll s ex →
    exec .sessionInit s = .next ((((s.exchangedAll ex).setRun (decodeRun (b3.getD 0 0))).setDrawn drawn).answered
      (.ok .unit))

/-- R135, 90 C3: in SESSION_INIT a failed Send of EXIT_DFU is ignored: the second MODE, which here
says Debug, and STATUS go on as usual (with RESP_LEN_MODE = 0 no mode byte comes and both are free values, log entry 11). -/
def Obligations.SessionInitIgnoresExitDfuError : Prop :=
  ∀ (s : State) (b1 b2 b3 : List Byte) (e : Nat) (ss : List SendAnswer) (rs : List RecvAnswer),
    let reply := fun (b : List Byte) => if s.cfg.respLenMode = 0 then [] else [RecvAnswer.ok b]
    OpenReady s → s.sends = .ok :: .fail e :: .ok :: .ok :: ss → s.recvs = reply b1 ++ reply b2 ++ .ok b3 :: rs →
    b1.length = s.cfg.respLenMode → b2.length = s.cfg.respLenMode → b3.length = 2 →
    (filled 1 b1 s.drawn).getD 0 0 = 0x00 → (filled 1 b2 (s.drawn + (1 - b1.length))).getD 0 0 = 0x02 →
    ∃ t : State, exec .sessionInit s = .next t ∧ t.result = some (.ok .unit) ∧
      t.session = { s.session with run := decodeRun (b3.getD 0 0), seq := 0 } ∧
      newFrames s t = [encodeFrame s.cfg .mode, encodeFrame s.cfg .exitDfu, encodeFrame s.cfg .mode,
        encodeFrame s.cfg .status]

/-- R137: CLOSE on an open session calls the transport's close and closes the session; on a closed one it
does nothing; its result is unit in both, it sends no frame, and S.run and S.cpuid keep their values. That the
transport's close always returns is the model's choice (log entry 24). -/
def Obligations.CloseEndsSession : Prop :=
  ∀ s : State, Ready s →
    (s.session.isOpen = true →
      exec .close s = .next ((((s.log .close).setClaimed false).setOpen false).answered (.ok .unit))) ∧
    (s.session.isOpen = false → exec .close s = .next (s.answered (.ok .unit)))

/-- R104: VERSION returns the three fields of the word of the first two reply bytes, and their text; the
other reply bytes do not matter. The field layout is PRESUMED by the spec itself (R104: "from general
knowledge, not in source"; log entry 16). -/
def Obligations.VersionResult : Prop :=
  ∀ (s : State) (b0 b1 : Byte) (b : List Byte), OpenReady s → Answers s 6 (b0 :: b1 :: b) →
    ∃ v : Version,
      exec .version s = .next ((s.exchanged (encodeFrame s.cfg .version) 6 (b0 :: b1 :: b)).answered
        (.ok (.version v))) ∧
      v.major ++ v.jtag ++ v.swim = b0 ++ b1 ∧
      v.text = versionText v.major.toNat v.jtag.toNat v.swim.toNat

/-- R105, R106, R265: TARGET_VOLTAGE returns the two samples and the exact quotient 12 * measured /
(5 * reference); a reference of 0 raises MeasuredVoltageZero whatever the measured sample. With
RESP_LEN_VOLTAGE below 8 the bytes that do not come are free values (log entry 11). -/
def Obligations.TargetVoltageResult : Prop :=
  ∀ (s : State) (b : List Byte), OpenReady s → Answers s s.cfg.respLenVoltage b →
    let f := filled 8 b s.drawn
    let t := (s.exchanged (encodeFrame s.cfg .targetVoltage) s.cfg.respLenVoltage b).setDrawn
      (s.drawn + (8 - b.length))
    (sle32 f 0 = 0 →
      exec .targetVoltage s = .next (t.answered (.err (.measuredVoltageZero (sle32 f 4))))) ∧
    (sle32 f 0 ≠ 0 →
      exec .targetVoltage s = .next (t.answered (.ok (.voltage
        { reference := sle32 f 0
          measured := sle32 f 4
          volts := (12 * (sle32 f 4 : Rat)) / (5 * (sle32 f 0 : Rat)) })))) ∧
    (8 ≤ s.cfg.respLenVoltage → f = b ∧ t.drawn = s.drawn)

/-- R160, R78: STATUS returns and caches the run state the first reply byte names: 0x80 Running, 0x81
Halted, any other Unknown. -/
def Obligations.StatusResult : Prop :=
  ∀ (s : State) (b : List Byte), OpenReady s → Answers s 2 b →
    ∃ r : RunState,
      exec .status s = .next (((s.exchanged (encodeFrame s.cfg .status) 2 b).setRun r).answered
        (.ok (.runState r))) ∧
      (r = .running ↔ b.getD 0 0 = 0x80) ∧ (r = .halted ↔ b.getD 0 0 = 0x81)

/-- R161 to R166, R168, R102: HALT and STEP (one and the same frame), RUN, RESET, HARD_RESET and
FORCE_DEBUG send their frame, discard the ack whatever it holds, and leave the run-state cache Halted,
Halted, Running, Unknown, Unknown and Halted. -/
def Obligations.AckCommandResults : Prop :=
  ∀ (s : State) (b : List Byte), OpenReady s →
    (Answers s 2 b →
      exec .halt s = .next (((s.exchanged (encodeFrame s.cfg .stepCore) 2 b).setRun .halted).answered
        (.ok .unit)) ∧
      exec .step s = .next (((s.exchanged (encodeFrame s.cfg .stepCore) 2 b).setRun .halted).answered
        (.ok .unit)) ∧
      exec .run s = .next (((s.exchanged (encodeFrame s.cfg .run) 2 b).setRun .running).answered
        (.ok .unit)) ∧
      exec .reset s = .next (((s.exchanged (encodeFrame s.cfg .reset) 2 b).setRun .unknown).answered
        (.ok .unit)) ∧
      exec .hardReset s = .next (((s.exchanged (encodeFrame s.cfg .hardReset) 2 b).setRun .unknown).answered
        (.ok .unit))) ∧
    (Answers s s.cfg.respLenForceDebug b →
      exec .forceDebug s = .next (((s.exchanged (encodeFrame s.cfg .forceDebug) s.cfg.respLenForceDebug
        b).setRun .halted).answered (.ok .unit)))

/-- R167: CORE_ID returns the little-endian word of the reply and caches nothing. With RESP_LEN_COREID below 4
the bytes that do not come are free values (log entry 11). -/
def Obligations.CoreIdResult : Prop :=
  ∀ (s : State) (b : List Byte), OpenReady s → Answers s s.cfg.respLenCoreId b →
    let f := filled 4 b s.drawn
    let t := (s.exchanged (encodeFrame s.cfg .coreId) s.cfg.respLenCoreId b).setDrawn (s.drawn + (4 - b.length))
    exec .coreId s = .next (t.answered (.ok (.word (f.getD 3 0 ++ f.getD 2 0 ++ f.getD 1 0 ++ f.getD 0 0)))) ∧
      (4 ≤ s.cfg.respLenCoreId → f = b ∧ t.drawn = s.drawn)

/-- R170, R55: READ32 sends the address as given, misaligned or not, and returns the second word of the
reply; the first word does not matter and no session state changes. -/
def Obligations.Read32Result : Prop :=
  ∀ (s : State) (a : Word) (b : List Byte), OpenReady s → Answers s 8 b →
    exec (.read32 a) s = .next ((s.exchanged (encodeFrame s.cfg (.read32 a)) 8 b).answered
      (.ok (.word (b.getD 7 0 ++ b.getD 6 0 ++ b.getD 5 0 ++ b.getD 4 0))))

/-- R171, R173: WRITE32 with the cache not Running sends the write frame alone and leaves the cache; with
the cache Running it sends HALT, the write frame and RUN, and the cache ends Running. -/
def Obligations.Write32Result : Prop :=
  ∀ (s : State) (a w : Word) (bh bw br : List Byte), OpenReady s →
    (s.session.run ≠ .running → Answers s 8 bw →
      exec (.write32 a w) s = .next ((s.exchanged (encodeFrame s.cfg (.write32 a w)) 8 bw).answered
        (.ok .unit))) ∧
    (let ex := [served s .stepCore bh, served s (.write32 a w) bw, served s .run br]
     s.session.run = .running → AnswersAll s ex →
      exec (.write32 a w) s = .next ((s.exchangedAll ex).answered (.ok .unit)))

/-- R172: however the transport answers, a WRITE32 that ends on an open session whose cached state was
Running offered HALT first and RUN last, with the write frame between, or without it and then with an
error as its result; with another cached state it offered the write frame alone. -/
def Obligations.WriteBracketAlwaysResumes : Prop :=
  ∀ (s t : State) (a w : Word), OpenReady s → exec (.write32 a w) s = .next t → t.inProgress = none →
    (s.session.run = .running →
      newFrames s t = [encodeFrame s.cfg .stepCore, encodeFrame s.cfg (.write32 a w), encodeFrame s.cfg .run] ∨
      newFrames s t = [encodeFrame s.cfg .stepCore, encodeFrame s.cfg .run] ∧
        ∃ e, t.result = some (.err e)) ∧
    (s.session.run ≠ .running → newFrames s t = [encodeFrame s.cfg (.write32 a w)])

/-- R173, R174: on an open session with the cache Running. HALT fails, in its Send or in its ack: the write is
skipped, RUN is still sent, and HALT's error is reported, even when RUN fails too. The write fails, in its
Send or in its ack: RUN is still sent and the write's error is reported, even when RUN fails too. RUN
alone fails, in its Send or in its ack: its error is reported and the cache stays Halted. (That the first
failure is the one reported however the transport answers: TransportErrorsReported.) -/
def Obligations.WriteErrorPrecedence : Prop :=
  ∀ (s : State) (a w : Word) (bh bw br : List Byte) (e1 e2 : Nat) (ss : List SendAnswer)
    (rs : List RecvAnswer),
    let halt := encodeFrame s.cfg .stepCore
    let write := encodeFrame s.cfg (.write32 a w)
    let run := encodeFrame s.cfg .run
    let ends := fun (e : Error) (r : RunState) (fs : List Frame) => ∃ t, exec (.write32 a w) s = .next t ∧
      t.result = some (.err e) ∧ t.session = { s.session with run := r, seq := 0 } ∧ newFrames s t = fs
    OpenReady s → s.session.run = .running → bh.length = 2 → bw.length = 8 → br.length = 2 →
    (s.sends = .fail e1 :: .ok :: ss → s.recvs = .ok br :: rs →
      ends (.transportSend e1) .running [halt, run]) ∧
    (s.sends = .fail e1 :: .fail e2 :: ss → ends (.transportSend e1) .running [halt, run]) ∧
    (s.sends = .ok :: .ok :: ss → s.recvs = .fail e1 :: .ok br :: rs →
      ends (.transportRecv (.value e1)) .running [halt, run]) ∧
    (s.sends = .ok :: .ok :: ss → s.recvs = .fail e1 :: .fail e2 :: rs →
      ends (.transportRecv (.value e1)) .running [halt, run]) ∧
    (s.sends = .ok :: .fail e1 :: .ok :: ss → s.recvs = .ok bh :: .ok br :: rs →
      ends (.transportSend e1) .running [halt, write, run]) ∧
    (s.sends = .ok :: .ok :: .ok :: ss → s.recvs = .ok bh :: .fail e1 :: .ok br :: rs →
      ends (.transportRecv (.value e1)) .running [halt, write, run]) ∧
    (s.sends = .ok :: .ok :: .fail e2 :: ss → s.recvs = .ok bh :: .fail e1 :: rs →
      ends (.transportRecv (.value e1)) .halted [halt, write, run]) ∧
    (s.sends = .ok :: .ok :: .fail e2 :: ss → s.recvs = .ok bh :: .ok bw :: rs →
      ends (.transportSend e2) .halted [halt, write, run]) ∧
    (s.sends = .ok :: .ok :: .ok :: ss → s.recvs = .ok bh :: .ok bw :: .fail e1 :: rs →
      ends (.transportRecv (.value e1)) .halted [halt, write, run])

/-- R176, R177, R54: READ16 of an odd address raises UnalignedAccess with no frame; of an even one it reads
the containing word and returns bits [15:0] when a[1] = 0 and bits [31:16] when a[1] = 1, under a mask
that keeps the low 16 bits. -/
def Obligations.Read16Result : Prop :=
  ∀ (s : State) (a : Word), OpenReady s →
    (a.getLsbD 0 = true → exec (.read16 a) s = .next (s.answered (.err (.unalignedAccess a)))) ∧
    ∀ b : List Byte, a.getLsbD 0 = false → s.cfg.maskOk = true → Answers s 8 b →
      exec (.read16 a) s =
        .next ((s.exchanged (encodeFrame s.cfg (.read32 (a &&& 0xFFFFFFFC))) 8 b).answered
          (.ok (.half (if a.getLsbD 1 then b.getD 7 0 ++ b.getD 6 0 else b.getD 5 0 ++ b.getD 4 0))))

/-- R177, R178: the halfword READ16 returns is bits [15:0] of the containing word, shifted right by 16 where
a[1:0] is not 00, under the 20-bit mask 0x000FFFFF, under the 16-bit mask 0x0000FFFF and under every mask
that keeps the low 16 bits: the result does not tell the masks apart. -/
def Obligations.Read16MaskUnobservable : Prop :=
  ∀ a w : Word,
    let half := (if a.extractLsb' 0 2 = 0 then w else w >>> 16).extractLsb' 0 16
    halfOf 0x000FFFFF a w = half ∧ halfOf 0x0000FFFF a w = half ∧
      ∀ c : Config, c.maskOk = true → halfOf c.read16Mask a w = half

/-- R175: CPU_ID reads the CPUID register whatever is cached, returns the word read and caches it, 0
included. -/
def Obligations.CpuIdResult : Prop :=
  ∀ (s : State) (b : List Byte), OpenReady s → Answers s 8 b →
    exec .cpuId s = .next (((s.exchanged (encodeFrame s.cfg (.read32 s.cfg.cpuidAddr)) 8 b).setCpuid
      (le32 b 4)).answered (.ok (.word (le32 b 4))))

/-- R179: CORE_RESET_HALT with every command answered: the three writes and the read-back with the cache
not Running, each write in its own HALT and RUN with the cache Running; the cache ends Unknown. -/
def Obligations.CoreResetHaltCompletes : Prop :=
  ∀ (s : State) (h1 h2 h3 w1 w2 w3 r1 r2 r3 v : List Byte),
    let d := served s (.write32 s.cfg.dhcsrAddr s.cfg.dhcsrHaltWord) w1
    let m := served s (.write32 s.cfg.demcrAddr s.cfg.demcrHaltAfterResetWord) w2
    let a := served s (.write32 s.cfg.aircrAddr s.cfg.aircrResetWord) w3
    let q := served s (.read32 s.cfg.aircrAddr) v
    let plain := [d, m, a, q]
    let bracketed := [served s .stepCore h1, d, served s .run r1, served s .stepCore h2, m, served s .run r2,
      served s .stepCore h3, a, served s .run r3, q]
    OpenReady s →
    (s.session.run ≠ .running → AnswersAll s plain →
      exec .coreResetHalt s = .next (((s.exchangedAll plain).setRun .unknown).answered (.ok .unit))) ∧
    (s.session.run = .running → AnswersAll s bracketed →
      exec .coreResetHalt s = .next (((s.exchangedAll bracketed).setRun .unknown).answered (.ok .unit)))

/-- R179, R273: CORE_RESET_HALT ends with the error of the step that failed and runs no later step. With the
cache Halted: a failed ack of the first or the second write leaves it Halted, of the third write or of
the read-back leaves it Unknown. With the cache Running: a second write whose Send fails still resumes and
leaves it Running, and a third write whose Send fails still resumes and leaves it Unknown. -/
def Obligations.CoreResetHaltAborts : Prop :=
  ∀ (s : State) (h1 h2 h3 w1 w2 w3 r1 r2 r3 : List Byte) (e : Nat) (ss : List SendAnswer)
    (rs : List RecvAnswer),
    let halt := encodeFrame s.cfg .stepCore
    let run := encodeFrame s.cfg .run
    let d := encodeFrame s.cfg (.write32 s.cfg.dhcsrAddr s.cfg.dhcsrHaltWord)
    let m := encodeFrame s.cfg (.write32 s.cfg.demcrAddr s.cfg.demcrHaltAfterResetWord)
    let a := encodeFrame s.cfg (.write32 s.cfg.aircrAddr s.cfg.aircrResetWord)
    let q := encodeFrame s.cfg (.read32 s.cfg.aircrAddr)
    let ends := fun (e : Error) (r : RunState) (fs : List Frame) => ∃ t, exec .coreResetHalt s = .next t ∧
      t.result = some (.err e) ∧ t.session = { s.session with run := r, seq := 0 } ∧ newFrames s t = fs
    OpenReady s → h1.length = 2 → h2.length = 2 → h3.length = 2 → w1.length = 8 → w2.length = 8 →
    w3.length = 8 → r1.length = 2 → r2.length = 2 → r3.length = 2 →
    (s.session.run = .halted →
      (s.sends = .ok :: ss → s.recvs = .fail e :: rs → ends (.transportRecv (.value e)) .halted [d]) ∧
      (s.sends = .ok :: .ok :: ss → s.recvs = .ok w1 :: .fail e :: rs →
        ends (.transportRecv (.value e)) .halted [d, m]) ∧
      (s.sends = .ok :: .ok :: .ok :: ss → s.recvs = .ok w1 :: .ok w2 :: .fail e :: rs →
        ends (.transportRecv (.value e)) .unknown [d, m, a]) ∧
      (s.sends = .ok :: .ok :: .ok :: .ok :: ss → s.recvs = .ok w1 :: .ok w2 :: .ok w3 :: .fail e :: rs →
        ends (.transportRecv (.value e)) .unknown [d, m, a, q])) ∧
    (s.session.run = .running →
      (s.sends = .ok :: .ok :: .ok :: .ok :: .fail e :: .ok :: ss →
        s.recvs = .ok h1 :: .ok w1 :: .ok r1 :: .ok h2 :: .ok r2 :: rs →
        ends (.transportSend e) .running [halt, d, run, halt, m, run]) ∧
      (s.sends = .ok :: .ok :: .ok :: .ok :: .ok :: .ok :: .ok :: .fail e :: .ok :: ss →
        s.recvs = .ok h1 :: .ok w1 :: .ok r1 :: .ok h2 :: .ok w2 :: .ok r2 :: .ok h3 :: .ok r3 :: rs →
        ends (.transportSend e) .unknown [halt, d, run, halt, m, run, halt, a, run]))

/-- R220, R23: CORTEX_PART_NUMBER uses a non-zero cached CPUID with no frame; while the cache is 0 it reads
the CPUID register first and caches the word. -/
def Obligations.CortexPartNumberResult : Prop :=
  ∀ s : State, OpenReady s →
    (s.session.cpuid ≠ 0 →
      exec .cortexPartNumber s = .next (s.answered
        (.ok (.coreType (partDecode s.cfg (s.session.cpuid.extractLsb' 4 12)))))) ∧
    ∀ b : List Byte, s.session.cpuid = 0 → Answers s 8 b →
      exec .cortexPartNumber s =
        .next (((s.exchanged (encodeFrame s.cfg (.read32 s.cfg.cpuidAddr)) 8 b).setCpuid (le32 b 4)).answered
          (.ok (.coreType (partDecode s.cfg ((le32 b 4).extractLsb' 4 12)))))

/-- R225, R226, R221: with the six part numbers distinct each names its core type and every other code is
Unknown; M0 and M0+ alone select CHIPID_ADDR_M0. -/
def Obligations.PartNumbersClassify : Prop :=
  ∀ c : Config, c.partNumbersDistinct = true →
    (partDecode c c.pnM0 = .m0 ∧ partDecode c c.pnM0P = .m0p ∧ partDecode c c.pnM1 = .m1 ∧
      partDecode c c.pnM3 = .m3 ∧ partDecode c c.pnM4 = .m4 ∧ partDecode c c.pnM7 = .m7) ∧
    (∀ pn, pn ∉ [c.pnM0, c.pnM0P, c.pnM1, c.pnM3, c.pnM4, c.pnM7] → partDecode c pn = .unknown) ∧
    ∀ t : CoreType, chipIdAddr c t = if t = .m0 ∨ t = .m0p then c.chipIdAddrM0 else c.chipIdAddrOther

/-- R221, R222: CHIP_ID reads the register of the core's class and returns the word, DEV_ID its low 12
bits; with the CPUID cached they send that one frame, and with the cache 0 they read and cache the CPUID
first. -/
def Obligations.ChipIdAndDevIdResult : Prop :=
  ∀ (s : State) (b v : List Byte), OpenReady s →
    (let addr := chipIdAddr s.cfg (partDecode s.cfg (s.session.cpuid.extractLsb' 4 12))
     let t := s.exchangedAll [served s (.read32 addr) v]
     s.session.cpuid ≠ 0 → AnswersAll s [served s (.read32 addr) v] →
      exec .chipId s = .next (t.answered (.ok (.word (le32 v 4)))) ∧
      exec .devId s = .next (t.answered (.ok (.family ((le32 v 4).extractLsb' 0 12))))) ∧
    (let addr := chipIdAddr s.cfg (partDecode s.cfg ((le32 b 4).extractLsb' 4 12))
     let ex := [served s (.read32 s.cfg.cpuidAddr) b, served s (.read32 addr) v]
     let t := (s.exchangedAll ex).setCpuid (le32 b 4)
     s.session.cpuid = 0 → AnswersAll s ex →
      exec .chipId s = .next (t.answered (.ok (.word (le32 v 4)))) ∧
      exec .devId s = .next (t.answered (.ok (.family ((le32 v 4).extractLsb' 0 12)))))

/-- R223, R228: FAMILY_GROUP is a pure lookup: it answers on an open and on a closed session, with the group
of the code's row, or UnknownGroup where the code has none. -/
def Obligations.FamilyGroupResult : Prop :=
  ∀ (s : State) (f : Code12), Ready s →
    ∃ g : Group, exec (.familyGroup f) s = .next (s.answered (.ok (.group g))) ∧
      ((∀ r ∈ s.cfg.familyGroup, r.1 ≠ f) → g = .unknownGroup) ∧
      ((∃ r ∈ s.cfg.familyGroup, r.1 = f) → (f, g) ∈ s.cfg.familyGroup)

/-- R224, R227, R229, R54: FLASH_SIZE resolves the family code (reading the CPUID first while the cache is 0,
and the chip id always); a code with no row raises UnknownCore after those frames; a code with one is
read as a halfword of the row's address, 0 included. -/
def Obligations.FlashSizeResult : Prop :=
  ∀ (s : State) (b v d : List Byte),
    let cached := s.session.cpuid
    let pre := if cached = 0 then [served s (.read32 s.cfg.cpuidAddr) b] else []
    let cpuid := if cached = 0 then le32 b 4 else cached
    let chip := served s (.read32 (chipIdAddr s.cfg (partDecode s.cfg (cpuid.extractLsb' 4 12)))) v
    let family := (le32 v 4).extractLsb' 0 12
    OpenReady s → s.cfg.flashTableOk = true → s.cfg.maskOk = true →
    (flashAddrOf s.cfg family = none → AnswersAll s (pre ++ [chip]) →
      exec .flashSize s = .next (((s.exchangedAll (pre ++ [chip])).setCpuid cpuid).answered
        (.err (.unknownCore family)))) ∧
    ∀ a : Word, flashAddrOf s.cfg family = some a →
      let ex := pre ++ [chip, served s (.read32 (a &&& 0xFFFFFFFC)) d]
      AnswersAll s ex →
      exec .flashSize s = .next (((s.exchangedAll ex).setCpuid cpuid).answered
        (.ok (.half (if a.getLsbD 1 then d.getD 7 0 ++ d.getD 6 0 else d.getD 5 0 ++ d.getD 4 0))))

/-- R8, R77, R225, R227, R178: the default configuration is well formed whatever its OPEN rows are: its reply
lengths hold the fields read, its part numbers differ, the source's two flash-size entries stand, every address is even. The values it is made
of are PRESUMED (log entries 7 and 8). -/
def Obligations.DefaultConfigWellFormed : Prop :=
  Config.default.wellFormed = true

/-- R180, R267: CLOCK_SPEED on an open session raises NotImplemented and sends no frame. -/
def Obligations.ClockSpeedNotImplemented : Prop :=
  ∀ s : State, OpenReady s →
    exec .clockSpeed s = .next (s.answered (.err (.notImplemented "clock-speed")))

/-- R100, R261, R276: on a closed session every operation but CLOSE and FAMILY_GROUP raises Closed, sends no
frame and writes no state. -/
def Obligations.ClosedSessionRaisesClosed : Prop :=
  ∀ (i : Instr) (s : State), Ready s → s.session.isOpen = false → i ≠ .close →
    (∀ f, i ≠ .familyGroup f) → exec i s = .next (s.answered (.err .closed))

/-- R262, R169, R175, R273, R13: when the Send of the first frame of an operation fails, composite operations
included, the operation raises TransportSend with the transport's error value, asks for no Recv, sends no
other frame and leaves the session record as it was. (A bracketed WRITE32 is not of this shape:
WriteErrorPrecedence.) -/
def Obligations.SendFailureRaises : Prop :=
  ∀ (i : Instr) (op : FrameOp) (s : State) (e : Nat) (ss : List SendAnswer), OpenReady s →
    firstCommand s i = some op → ¬ bracketed s i → s.sends = .fail e :: ss →
    exec i s = .next (((s.setSends ss).log
      (.send (outEp s.cfg s.session.variant) (encodeFrame s.cfg op) (some (.fail e)))).answered
        (.err (.transportSend e)))

/-- R263, R268, R169, R175, R273, R103: when the Recv of the reply to the first frame of an operation fails, or
brings another number of bytes than the reply's fixed length, composite operations included, the operation
raises TransportRecv with the transport's error value, or with short, sends no other frame and leaves the
session record as it was. (A bracketed WRITE32 is not of this shape: WriteErrorPrecedence.) -/
def Obligations.RecvFailureRaises : Prop :=
  ∀ (i : Instr) (op : FrameOp) (s : State) (ss : List SendAnswer) (r : RecvAnswer) (rs : List RecvAnswer),
    let t : State := { s with
      sends := ss
      recvs := rs
      trace := s.trace ++ [Event.send (outEp s.cfg s.session.variant) (encodeFrame s.cfg op) (some .ok),
        Event.recv s.cfg.inEp (respLen s.cfg op) (some r)] }
    OpenReady s → firstCommand s i = some op → respLen s.cfg op ≠ 0 → ¬ bracketed s i →
    s.sends = .ok :: ss → s.recvs = r :: rs →
    (∀ e, r = .fail e → exec i s = .next (t.answered (.err (.transportRecv (.value e))))) ∧
    (∀ b, r = .ok b → b.length ≠ respLen s.cfg op → exec i s = .next (t.answered (.err (.transportRecv .short))))

/-- R271, R273, R174: however the transport answers, an operation that ends reports a transport error exactly
when a use of its port failed, and the error is that of the first use that failed: no error is retried
or recovered, in the composite operations either. In SESSION_INIT a failed Send of EXIT_DFU does not
count (R135). -/
def Obligations.TransportErrorsReported : Prop :=
  ∀ (i : Instr) (s t : State) (e : Error), exec i s = .next t → t.inProgress = none → e.isTransport = true →
    (i ≠ .sessionInit → (t.result = some (.err e) ↔ firstError (newEvents s t) = some e)) ∧
    (i = .sessionInit → s.cfg.framesDistinct = true → (t.result = some (.err e) ↔
      firstError ((newEvents s t).filter fun ev => !ev.offers (encodeFrame s.cfg .exitDfu)) = some e))

/-- R169, with R175 and R272: however an operation fails, S.run and the rest of the record keep their values,
but for WRITE32 and CORE_RESET_HALT (whose brackets write S.run), and for CHIP_ID, DEV_ID and FLASH_SIZE
while the CPUID is not yet read, where the CPUID of the first reply may already stand in S.cpuid. -/
def Obligations.ErrorKeepsRecord : Prop :=
  ∀ (i : Instr) (s t : State) (e : Error), exec i s = .next t → t.result = some (.err e) →
    i ≠ .coreResetHalt → (∀ a w, i ≠ .write32 a w) →
    (i ∉ [.chipId, .devId, .flashSize] ∨ s.session.cpuid ≠ 0 → t.session = { s.session with seq := 0 }) ∧
    (t.session = { s.session with seq := 0 } ∨
      ∃ b, s.recvs.head? = some (.ok b) ∧ b.length = 8 ∧
        t.session = { s.session with cpuid := le32 b 4, seq := 0 })

/-- R300, R26, R278: an operation the transport never answers stays in progress with no result; the session
has no further step, and every request meanwhile is refused. That it stands in the state as an operation
in progress, and that a step is the hang or the refusal by the requests waiting, is the model's form of
these rules (log entry 4). -/
def Obligations.BlockedHasNoStep : Prop :=
  ∀ (i : Instr) (s t : State), exec i s = .next t → t.inProgress ≠ none →
    t.inProgress = some i ∧ t.result = none ∧ (t.requests = [] → step t = .fault .hang) ∧
      (t.requests ≠ [] → step t = .refused .requestOverlap) ∧
      ∀ j : Instr, exec j t = .refused .requestOverlap

/-- R25, R300, R135, R173, R179: where SESSION_INIT, WRITE32 or CORE_RESET_HALT stops for want of an answer,
however the transport answered before, S.seq names the step: in SESSION_INIT 1 for the first MODE, 2 for
EXIT_DFU, 3 for the second MODE, 4 for ENTER_SWD, 5 for STATUS; in WRITE32 1 for HALT, 2 for the write, 3
for RUN; in CORE_RESET_HALT 4 for the read-back, and inside one of its writes that WRITE32's own number,
1, 2 or 3. The last is the model's reading of R25 (log entry 13), and the stopped operation's place in the
state is the model's form (log entry 4). -/
def Obligations.SeqNamesBlockedStep : Prop :=
  ∀ (i : Instr) (s t : State), OpenReady s → exec i s = .next t → t.inProgress ≠ none →
    let stopped := fun (k : Nat) (op : FrameOp) =>
      t.session.seq = k ∧ (newFrames s t).getLast? = some (encodeFrame s.cfg op)
    (i = .sessionInit →
      (stopped 1 .mode ∧ (newFrames s t).length = 1) ∨ stopped 2 .exitDfu ∨
      (stopped 3 .mode ∧ 2 ≤ (newFrames s t).length) ∨ stopped 4 .enterSwd ∨ stopped 5 .status) ∧
    (∀ a w, i = .write32 a w → stopped 1 .stepCore ∨ stopped 2 (.write32 a w) ∨ stopped 3 .run) ∧
    (i = .coreResetHalt →
      stopped 1 .stepCore ∨ stopped 2 (.write32 s.cfg.dhcsrAddr s.cfg.dhcsrHaltWord) ∨
      stopped 2 (.write32 s.cfg.demcrAddr s.cfg.demcrHaltAfterResetWord) ∨
      stopped 2 (.write32 s.cfg.aircrAddr s.cfg.aircrResetWord) ∨ stopped 3 .run ∨
      stopped 4 (.read32 s.cfg.aircrAddr))

/-- R22, R168: however the transport answers, S.run is written by no operation but those R22 names and those
that call them (SESSION_INIT calls STATUS, WRITE32 calls HALT and RUN). -/
def Obligations.RunCacheWriters : Prop :=
  ∀ (i : Instr) (s t : State), exec i s = .next t → t.session.run ≠ s.session.run →
    i ∈ [.status, .halt, .step, .run, .reset, .hardReset, .forceDebug, .coreResetHalt, .sessionInit] ∨
      ∃ a w, i = .write32 a w

/-- R23, R33: however the transport answers, S.cpuid is written by no operation but CPU_ID and, while it is
0, the four that call it. -/
def Obligations.CpuidCacheWriters : Prop :=
  ∀ (i : Instr) (s t : State), exec i s = .next t → t.session.cpuid ≠ s.session.cpuid →
    i = .cpuId ∨ s.session.cpuid = 0 ∧ i ∈ [.cortexPartNumber, .chipId, .devId, .flashSize]

/-- R276, R21, R136: a step never opens a closed session, and closes an open one only by CLOSE or by an
aborted opening (the phases of a session: log entries 3 and 21). -/
def Obligations.OpenIsLeftOnce : Prop :=
  ∀ s t : State, step s = .next t →
    (s.session.isOpen = false → t.session.isOpen = false) ∧
    (s.session.isOpen = true → t.session.isOpen = false →
      (s.phase = .opening ∧ t.phase = .discarded) ∨
      ∃ r rest, s.requests = r :: rest ∧ decodeRequest r = .ok .close)

/-- R41, R24, R293: no step writes the configuration or the variant. -/
def Obligations.ConfigAndVariantFixed : Prop :=
  ∀ s t : State, step s = .next t → t.cfg = s.cfg ∧ t.session.variant = s.session.variant

/-- R13, R26, R61: the frame of every operation, however the transport answers: the configuration, the
variant, the phase and the waiting requests stay; the open flag and the transport handle stay but for
CLOSE; the port log only grows; the answers are used from the front. The count of free values drawn (the
model's own, log entry 11) never falls, and moves only in the four operations that read a reply of a
configured length, under a length too short for their fields. -/
def Obligations.ExecFrame : Prop :=
  ∀ (i : Instr) (s t : State), exec i s = .next t →
    t.cfg = s.cfg ∧ t.session.variant = s.session.variant ∧ t.phase = s.phase ∧ t.requests = s.requests ∧
    (i ≠ .close → t.session.isOpen = s.session.isOpen ∧ t.claimed = s.claimed) ∧
    (∃ evs, t.trace = s.trace ++ evs) ∧ (∃ used, s.sends = used ++ t.sends) ∧
    (∃ used, s.recvs = used ++ t.recvs) ∧ s.drawn ≤ t.drawn ∧
    (i ∉ [.mode, .sessionInit, .targetVoltage, .coreId] ∨ s.cfg.lengthsHold = true → t.drawn = s.drawn)

/-- R260, R264, R265, R266, R267: which operation raises which error, however the transport answers: Closed
only a closed session; UnalignedAccess only READ16 of that odd address, given a table of even addresses;
MeasuredVoltageZero only TARGET_VOLTAGE; UnknownCore only FLASH_SIZE for a family with no row;
NotImplemented only CLOCK_SPEED. -/
def Obligations.ErrorsRaisedBy : Prop :=
  ∀ (i : Instr) (s t : State) (e : Error), exec i s = .next t → t.result = some (.err e) →
    (e = .closed → s.session.isOpen = false) ∧
    (∀ x, e = .unalignedAccess x → s.cfg.flashTableOk = true → i = .read16 x ∧ x.getLsbD 0 = true) ∧
    (∀ m, e = .measuredVoltageZero m → i = .targetVoltage) ∧
    (∀ f, e = .unknownCore f → i = .flashSize ∧ flashAddrOf s.cfg f = none) ∧
    (∀ n, e = .notImplemented n → i = .clockSpeed ∧ n = "clock-speed")

/-- R272, R274: an operation that ends with an error leaves S.seq 0, the session as open as it was, the
configuration as it was and no operation in progress, so that the host may request any other. -/
def Obligations.ErrorLeavesSessionUsable : Prop :=
  ∀ (i : Instr) (s t : State) (e : Error), exec i s = .next t → t.result = some (.err e) →
    t.session.seq = 0 ∧ t.session.isOpen = s.session.isOpen ∧ t.phase = s.phase ∧ t.inProgress = none ∧ t.cfg = s.cfg

/-- R272: "S.cpuid written by CPU_ID inside a CHIP_ID whose READ32 then failed" stays written, and so it does
inside DEV_ID and FLASH_SIZE, whether the Send or the Recv of that READ32 fails. -/
def Obligations.ErrorKeepsCompletedWrites : Prop :=
  ∀ (i : Instr) (s : State) (b : List Byte) (e : Nat) (ss : List SendAnswer) (rs : List RecvAnswer),
    i ∈ [.chipId, .devId, .flashSize] → OpenReady s → s.session.cpuid = 0 → b.length = 8 →
    (s.sends = .ok :: .fail e :: ss → s.recvs = .ok b :: rs →
      ∃ t, exec i s = .next t ∧ t.result = some (.err (.transportSend e)) ∧
        t.session = { s.session with cpuid := le32 b 4, seq := 0 }) ∧
    (s.sends = .ok :: .ok :: ss → s.recvs = .ok b :: .fail e :: rs →
      ∃ t, exec i s = .next t ∧ t.result = some (.err (.transportRecv (.value e))) ∧
        t.session = { s.session with cpuid := le32 b 4, seq := 0 })

/-- R290, R291, R135: the first step of a created session runs SESSION_INIT; answered throughout, it hands the
session to the host with the run state of the STATUS reply. That the opening is one step, the first, and that
a field says where it stands, are the model's choices (log entries 1 and 3; RESP_LEN_MODE = 0: log entry 11), and
so is the place and value of the open request's answer, Ok(unit) on the result port (log entry 33). -/
def Obligations.OpeningCompletes : Prop :=
  ∀ (s : State) (b1 b2 b3 be : List Byte),
    let m1 := (filled 1 b1 s.drawn).getD 0 0
    let m2 := (filled 1 b2 (s.drawn + (1 - b1.length))).getD 0 0
    let ex := [served s .mode b1] ++
      (if m1 = 0x00 then [served s .exitDfu []] else []) ++ [served s .mode b2] ++
      (if m2 = 0x02 then [] else [served s .enterSwd be]) ++ [served s .status b3]
    let drawn := s.drawn + (1 - b1.length) + (1 - b2.length)
    OpenReady s → s.phase = .opening → AnswersAll s ex →
    step s = .next (((((s.exchangedAll ex).setRun (decodeRun (b3.getD 0 0))).setDrawn drawn).answered
      (.ok .unit)).setPhase .ready)

/-- R136, R290: however the transport answers, opening a session hands it to the host, or ends in a transport
error with the transport closed as the last event and the session discarded and closed, or stays blocked
in SESSION_INIT. The phase of a session is the model's field (log entries 3 and 21), and that the open request's
answer stands on the result port is the model's choice (log entry 33). -/
def Obligations.OpeningOutcomes : Prop :=
  ∀ s t : State, OpenReady s → s.phase = .opening → step s = .next t →
    (t.phase = .ready ∧ t.inProgress = none ∧ t.session.isOpen = true ∧ t.result = some (.ok .unit)) ∨
    (t.phase = .discarded ∧ t.inProgress = none ∧ t.session.isOpen = false ∧ t.claimed = false ∧
      t.trace.getLast? = some .close ∧
      ((∃ e, t.result = some (.err (.transportSend e))) ∨ ∃ e, t.result = some (.err (.transportRecv e)))) ∨
    (t.phase = .opening ∧ t.inProgress = some .sessionInit ∧ t.session.isOpen = true)

/-- R131 with R135 (the source's property of opening a probe): seen from a probe in any mode that makes R131's
transitions, a session that opens leaves the probe in Debug mode, if a MODE reply has a byte to say it
(RESP_LEN_MODE at least 1; log entry 11). `ModeObeys` is the model's form of R131
(log entry 19), and one step for the opening and its field are the model's (log entries 1 and 3). -/
def Obligations.OpenedProbeIsInDebug : Prop :=
  ∀ (s t : State) (p p' : Mode), s.inProgress = none → s.phase = .opening → s.cfg.framesDistinct = true →
    1 ≤ s.cfg.respLenMode → step s = .next t → t.phase = .ready → ModeObeys s.cfg p (newEvents s t) p' → p' = .debug

/-- R56, R173, R55: the target memory an aligned WRITE32 leaves under R56, however the transport answers: every
byte outside the four at its address reads as before, and if the operation ends with Ok the memory is the
old one with the word written there. `TargetObeys` is the model's form of R56 (log
entry 18), and the order of the word's bytes in memory is the model's choice (log entry 32). -/
def Obligations.Write32TargetMemory : Prop :=
  ∀ (s t : State) (a w : Word) (m m' : Memory), s.cfg.framesDistinct = true → aligned a = true →
    exec (.write32 a w) s = .next t → TargetObeys s.cfg m (newEvents s t) m' →
    (∀ x, x < a.toNat ∨ a.toNat + 3 < x → m'.readByte x = m.readByte x) ∧
    (t.result = some (.ok .unit) → m' = m.write32 a w)

/-- R56, R57: under R56 no operation but WRITE32 and CORE_RESET_HALT changes any byte of the target memory,
however the transport answers. -/
def Obligations.OtherOperationsKeepTargetMemory : Prop :=
  ∀ (i : Instr) (s t : State) (m m' : Memory), s.cfg.framesDistinct = true → (∀ a w, i ≠ .write32 a w) →
    i ≠ .coreResetHalt → exec i s = .next t → TargetObeys s.cfg m (newEvents s t) m' → m' = m

/-- R56, R179: under R56 (log entry 18) CORE_RESET_HALT, with its three register addresses aligned, changes no
byte outside the three words, however the transport answers; if it ends with Ok the three words were
written in its order (their byte order in memory: log entry 32). -/
def Obligations.CoreResetHaltTargetMemory : Prop :=
  ∀ (s t : State) (m m' : Memory),
    let d := s.cfg.dhcsrAddr
    let e := s.cfg.demcrAddr
    let a := s.cfg.aircrAddr
    let outside := fun (x : Nat) (r : Word) => x < r.toNat ∨ r.toNat + 3 < x
    s.cfg.framesDistinct = true → aligned d = true → aligned e = true → aligned a = true →
    exec .coreResetHalt s = .next t → TargetObeys s.cfg m (newEvents s t) m' →
    (∀ x, outside x d → outside x e → outside x a → m'.readByte x = m.readByte x) ∧
    (t.result = some (.ok .unit) → m' = ((m.write32 d s.cfg.dhcsrHaltWord).write32 e
      s.cfg.demcrHaltAfterResetWord).write32 a s.cfg.aircrResetWord)

/-- R56, R61: under R56 a READ32 after a WRITE32 of the same aligned address returns the word written,
whatever the cached run state (R56's form and the bytes in memory: log entries 18 and 32). -/
def Obligations.ReadAfterWrite : Prop :=
  ∀ (s t u : State) (a w v : Word) (m m1 m2 : Memory), s.cfg.framesDistinct = true → aligned a = true →
    m.wf = true → exec (.write32 a w) s = .next t → t.result = some (.ok .unit) →
    exec (.read32 a) t = .next u → u.result = some (.ok (.word v)) →
    TargetObeys s.cfg m (newEvents s t) m1 → TargetObeys s.cfg m1 (newEvents t u) m2 → v = w ∧ m2 = m1

/-- R58: under R56 a READ32 of an aligned address followed at once by a WRITE32 of the value read leaves the
target memory as it was, whatever the cached run state (R56's form and the bytes in memory: log entries 18
and 32). -/
def Obligations.IdentityWriteIsNoOp : Prop :=
  ∀ (s t u : State) (a v : Word) (m m1 m2 : Memory), s.cfg.framesDistinct = true → aligned a = true →
    m.wf = true → exec (.read32 a) s = .next t → t.result = some (.ok (.word v)) →
    exec (.write32 a v) t = .next u → u.result = some (.ok .unit) →
    TargetObeys s.cfg m (newEvents s t) m1 → TargetObeys s.cfg m1 (newEvents t u) m2 → m2 = m

/-- R277, R62: a step of one session leaves every other session as it was, and sessions that share a
configuration go on sharing it. That
sessions are a list of which one steps at a time is the model's choice (log entry 20). -/
def Obligations.SessionsIndependent : Prop :=
  ∀ (k : Nat) (ss ss' : List State) (c : Config), stepSession k ss = .next ss' →
    (∀ j, j ≠ k → ss'[j]? = ss[j]?) ∧ ((∀ s ∈ ss, s.cfg = c) → ∀ s ∈ ss', s.cfg = c)
end

