-- ==== Sys2Proof/Laws/Operands.lean ====
section
/-! SUPPORT. The byte-array primitives, the reading of a reply and the encoder: what a little-endian read sees,
what a put leaves, the length of every frame. -/

namespace Sys2Proof

/-- A reply that holds the fields is read as it is. -/
theorem filled_of_length {n : Nat} {b : List Byte} (k : Nat) (h : n ≤ b.length) : filled n b k = b := by
  simp [filled, Nat.sub_eq_zero_of_le h]

/-- A reply is read with n bytes at least. -/
theorem filled_length (n : Nat) (b : List Byte) (k : Nat) : (filled n b k).length = max n b.length := by
  simp only [filled, List.length_append, List.length_map, List.length_range]
  omega

/-- Bit k of a little-endian word is bit k % 8 of byte k / 8. -/
theorem getLsbD_word4 (b0 b1 b2 b3 : Byte) (k : Nat) :
    (b3 ++ b2 ++ b1 ++ b0 : BitVec (8 + 8 + 8 + 8)).getLsbD k =
      if k < 8 then b0.getLsbD k else if k < 16 then b1.getLsbD (k - 8)
      else if k < 24 then b2.getLsbD (k - 16) else b3.getLsbD (k - 24) := by
  simp only [BitVec.getLsbD_append]
  have h1 : k - 8 < 8 ↔ k < 16 ∨ k < 8 := by omega
  have h2 : k - 8 - 8 < 8 ↔ k < 24 ∨ k < 8 := by omega
  have h3 : k - 8 - 8 = k - 16 := by omega
  have h4 : k - 16 - 8 = k - 24 := by omega
  by_cases a : k < 8
  · simp [a]
  · by_cases b : k < 16
    · simp [a, b, h1]
    · by_cases c : k < 24
      · have : k - 16 < 8 := by omega
        simp [a, b, c, h1, h3, this]
      · have : ¬ k - 16 < 8 := by omega
        simp [a, b, c, h1, h3, h4, this]

/-- The four byte fields of a word put back together give the word (R12). -/
theorem word_of_fields (v : Word) :
    (v.extractLsb' 24 8 ++ v.extractLsb' 16 8 ++ v.extractLsb' 8 8 ++ v.extractLsb' 0 8 :
      BitVec (8 + 8 + 8 + 8)) = v := by
  apply BitVec.eq_of_getLsbD_eq
  intro i hi
  rw [getLsbD_word4]
  simp only [BitVec.getLsbD_extractLsb']
  by_cases a : i < 8
  · simp [a]
  · by_cases b : i < 16
    · have h1 : i - 8 < 8 := by omega
      have h2 : 8 + (i - 8) = i := by omega
      simp [a, b, h1, h2]
    · by_cases c : i < 24
      · have h1 : i - 16 < 8 := by omega
        have h2 : 16 + (i - 16) = i := by omega
        simp [a, b, c, h1, h2]
      · have h1 : i - 24 < 8 := by omega
        have h2 : 24 + (i - 24) = i := by omega
        simp [a, b, c, h1, h2]

/-- `le32` after `put_le32` at the same place gives the word (R12). -/
theorem le32_putLe32 (f : Frame) (i : Nat) (v : Word) (h : i + 3 < f.length) : le32 (putLe32 f i v) i = v := by
  have h0 : i < f.length := by omega
  have h1 : i + 1 < f.length := by omega
  have h2 : i + 2 < f.length := by omega
  unfold le32 putLe32
  simp [h, h0, h1, h2]
  exact word_of_fields v

/-- `put_le32` leaves every byte outside its four alone (R12). -/
theorem getD_putLe32_other (f : Frame) (i k : Nat) (v : Word) (h : k < i ∨ i + 3 < k) :
    (putLe32 f i v).getD k 0 = f.getD k 0 := by
  have h0 : i ≠ k := by omega
  have h1 : i + 1 ≠ k := by omega
  have h2 : i + 2 ≠ k := by omega
  have h3 : i + 3 ≠ k := by omega
  simp [putLe32, h0, h1, h2, h3]

@[simp] theorem length_putLe32 (f : Frame) (i : Nat) (v : Word) : (putLe32 f i v).length = f.length := by
  simp [putLe32]

/-- R71: every frame the encoder builds is FRAME_LEN bytes. -/
@[simp] theorem length_encodeFrame (c : Config) (op : FrameOp) :
    (encodeFrame c op).length = Config.frameLen := by
  cases op <;> simp [encodeFrame, frameOf, Config.frameLen]

end Sys2Proof
end

