-- ==== Sys2Proof/Laws/State.lean ====
section
/-! SUPPORT. One lemma per field per update of State, all true by rfl, so that no proof unfolds an update. -/

namespace Sys2Proof.Machine

@[simp] theorem State.setOpen_isOpen (s : State) (b : Bool) : (s.setOpen b).session.isOpen = b := rfl
@[simp] theorem State.setOpen_run (s : State) (b : Bool) : (s.setOpen b).session.run = s.session.run := rfl
@[simp] theorem State.setOpen_cpuid (s : State) (b : Bool) : (s.setOpen b).session.cpuid = s.session.cpuid := rfl
@[simp] theorem State.setOpen_variant (s : State) (b : Bool) : (s.setOpen b).session.variant = s.session.variant := rfl
@[simp] theorem State.setOpen_seq (s : State) (b : Bool) : (s.setOpen b).session.seq = s.session.seq := rfl
@[simp] theorem State.setOpen_cfg (s : State) (b : Bool) : (s.setOpen b).cfg = s.cfg := rfl
@[simp] theorem State.setOpen_phase (s : State) (b : Bool) : (s.setOpen b).phase = s.phase := rfl
@[simp] theorem State.setOpen_claimed (s : State) (b : Bool) : (s.setOpen b).claimed = s.claimed := rfl
@[simp] theorem State.setOpen_requests (s : State) (b : Bool) : (s.setOpen b).requests = s.requests := rfl
@[simp] theorem State.setOpen_inProgress (s : State) (b : Bool) : (s.setOpen b).inProgress = s.inProgress := rfl
@[simp] theorem State.setOpen_result (s : State) (b : Bool) : (s.setOpen b).result = s.result := rfl
@[simp] theorem State.setOpen_sends (s : State) (b : Bool) : (s.setOpen b).sends = s.sends := rfl
@[simp] theorem State.setOpen_recvs (s : State) (b : Bool) : (s.setOpen b).recvs = s.recvs := rfl
@[simp] theorem State.setOpen_trace (s : State) (b : Bool) : (s.setOpen b).trace = s.trace := rfl
@[simp] theorem State.setOpen_drawn (s : State) (b : Bool) : (s.setOpen b).drawn = s.drawn := rfl

@[simp] theorem State.setRun_isOpen (s : State) (r : RunState) : (s.setRun r).session.isOpen = s.session.isOpen := rfl
@[simp] theorem State.setRun_run (s : State) (r : RunState) : (s.setRun r).session.run = r := rfl
@[simp] theorem State.setRun_cpuid (s : State) (r : RunState) : (s.setRun r).session.cpuid = s.session.cpuid := rfl
@[simp] theorem State.setRun_variant (s : State) (r : RunState) : (s.setRun r).session.variant = s.session.variant := rfl
@[simp] theorem State.setRun_seq (s : State) (r : RunState) : (s.setRun r).session.seq = s.session.seq := rfl
@[simp] theorem State.setRun_cfg (s : State) (r : RunState) : (s.setRun r).cfg = s.cfg := rfl
@[simp] theorem State.setRun_phase (s : State) (r : RunState) : (s.setRun r).phase = s.phase := rfl
@[simp] theorem State.setRun_claimed (s : State) (r : RunState) : (s.setRun r).claimed = s.claimed := rfl
@[simp] theorem State.setRun_requests (s : State) (r : RunState) : (s.setRun r).requests = s.requests := rfl
@[simp] theorem State.setRun_inProgress (s : State) (r : RunState) : (s.setRun r).inProgress = s.inProgress := rfl
@[simp] theorem State.setRun_result (s : State) (r : RunState) : (s.setRun r).result = s.result := rfl
@[simp] theorem State.setRun_sends (s : State) (r : RunState) : (s.setRun r).sends = s.sends := rfl
@[simp] theorem State.setRun_recvs (s : State) (r : RunState) : (s.setRun r).recvs = s.recvs := rfl
@[simp] theorem State.setRun_trace (s : State) (r : RunState) : (s.setRun r).trace = s.trace := rfl
@[simp] theorem State.setRun_drawn (s : State) (r : RunState) : (s.setRun r).drawn = s.drawn := rfl

@[simp] theorem State.setCpuid_isOpen (s : State) (v : Word) : (s.setCpuid v).session.isOpen = s.session.isOpen := rfl
@[simp] theorem State.setCpuid_run (s : State) (v : Word) : (s.setCpuid v).session.run = s.session.run := rfl
@[simp] theorem State.setCpuid_cpuid (s : State) (v : Word) : (s.setCpuid v).session.cpuid = v := rfl
@[simp] theorem State.setCpuid_variant (s : State) (v : Word) : (s.setCpuid v).session.variant = s.session.variant := rfl
@[simp] theorem State.setCpuid_seq (s : State) (v : Word) : (s.setCpuid v).session.seq = s.session.seq := rfl
@[simp] theorem State.setCpuid_cfg (s : State) (v : Word) : (s.setCpuid v).cfg = s.cfg := rfl
@[simp] theorem State.setCpuid_phase (s : State) (v : Word) : (s.setCpuid v).phase = s.phase := rfl
@[simp] theorem State.setCpuid_claimed (s : State) (v : Word) : (s.setCpuid v).claimed = s.claimed := rfl
@[simp] theorem State.setCpuid_requests (s : State) (v : Word) : (s.setCpuid v).requests = s.requests := rfl
@[simp] theorem State.setCpuid_inProgress (s : State) (v : Word) : (s.setCpuid v).inProgress = s.inProgress := rfl
@[simp] theorem State.setCpuid_result (s : State) (v : Word) : (s.setCpuid v).result = s.result := rfl
@[simp] theorem State.setCpuid_sends (s : State) (v : Word) : (s.setCpuid v).sends = s.sends := rfl
@[simp] theorem State.setCpuid_recvs (s : State) (v : Word) : (s.setCpuid v).recvs = s.recvs := rfl
@[simp] theorem State.setCpuid_trace (s : State) (v : Word) : (s.setCpuid v).trace = s.trace := rfl
@[simp] theorem State.setCpuid_drawn (s : State) (v : Word) : (s.setCpuid v).drawn = s.drawn := rfl

@[simp] theorem State.setSeq_isOpen (s : State) (k : Nat) : (s.setSeq k).session.isOpen = s.session.isOpen := rfl
@[simp] theorem State.setSeq_run (s : State) (k : Nat) : (s.setSeq k).session.run = s.session.run := rfl
@[simp] theorem State.setSeq_cpuid (s : State) (k : Nat) : (s.setSeq k).session.cpuid = s.session.cpuid := rfl
@[simp] theorem State.setSeq_variant (s : State) (k : Nat) : (s.setSeq k).session.variant = s.session.variant := rfl
@[simp] theorem State.setSeq_seq (s : State) (k : Nat) : (s.setSeq k).session.seq = k := rfl
@[simp] theorem State.setSeq_cfg (s : State) (k : Nat) : (s.setSeq k).cfg = s.cfg := rfl
@[simp] theorem State.setSeq_phase (s : State) (k : Nat) : (s.setSeq k).phase = s.phase := rfl
@[simp] theorem State.setSeq_claimed (s : State) (k : Nat) : (s.setSeq k).claimed = s.claimed := rfl
@[simp] theorem State.setSeq_requests (s : State) (k : Nat) : (s.setSeq k).requests = s.requests := rfl
@[simp] theorem State.setSeq_inProgress (s : State) (k : Nat) : (s.setSeq k).inProgress = s.inProgress := rfl
@[simp] theorem State.setSeq_result (s : State) (k : Nat) : (s.setSeq k).result = s.result := rfl
@[simp] theorem State.setSeq_sends (s : State) (k : Nat) : (s.setSeq k).sends = s.sends := rfl
@[simp] theorem State.setSeq_recvs (s : State) (k : Nat) : (s.setSeq k).recvs = s.recvs := rfl
@[simp] theorem State.setSeq_trace (s : State) (k : Nat) : (s.setSeq k).trace = s.trace := rfl
@[simp] theorem State.setSeq_drawn (s : State) (k : Nat) : (s.setSeq k).drawn = s.drawn := rfl

@[simp] theorem State.log_session (s : State) (e : Event) : (s.log e).session = s.session := rfl
@[simp] theorem State.log_cfg (s : State) (e : Event) : (s.log e).cfg = s.cfg := rfl
@[simp] theorem State.log_phase (s : State) (e : Event) : (s.log e).phase = s.phase := rfl
@[simp] theorem State.log_claimed (s : State) (e : Event) : (s.log e).claimed = s.claimed := rfl
@[simp] theorem State.log_requests (s : State) (e : Event) : (s.log e).requests = s.requests := rfl
@[simp] theorem State.log_inProgress (s : State) (e : Event) : (s.log e).inProgress = s.inProgress := rfl
@[simp] theorem State.log_result (s : State) (e : Event) : (s.log e).result = s.result := rfl
@[simp] theorem State.log_sends (s : State) (e : Event) : (s.log e).sends = s.sends := rfl
@[simp] theorem State.log_recvs (s : State) (e : Event) : (s.log e).recvs = s.recvs := rfl
@[simp] theorem State.log_trace (s : State) (e : Event) : (s.log e).trace = s.trace ++ [e] := rfl
@[simp] theorem State.log_drawn (s : State) (e : Event) : (s.log e).drawn = s.drawn := rfl

@[simp] theorem State.setSends_session (s : State) (l : List SendAnswer) : (s.setSends l).session = s.session := rfl
@[simp] theorem State.setSends_cfg (s : State) (l : List SendAnswer) : (s.setSends l).cfg = s.cfg := rfl
@[simp] theorem State.setSends_phase (s : State) (l : List SendAnswer) : (s.setSends l).phase = s.phase := rfl
@[simp] theorem State.setSends_claimed (s : State) (l : List SendAnswer) : (s.setSends l).claimed = s.claimed := rfl
@[simp] theorem State.setSends_requests (s : State) (l : List SendAnswer) : (s.setSends l).requests = s.requests := rfl
@[simp] theorem State.setSends_inProgress (s : State) (l : List SendAnswer) : (s.setSends l).inProgress = s.inProgress := rfl
@[simp] theorem State.setSends_result (s : State) (l : List SendAnswer) : (s.setSends l).result = s.result := rfl
@[simp] theorem State.setSends_sends (s : State) (l : List SendAnswer) : (s.setSends l).sends = l := rfl
@[simp] theorem State.setSends_recvs (s : State) (l : List SendAnswer) : (s.setSends l).recvs = s.recvs := rfl
@[simp] theorem State.setSends_trace (s : State) (l : List SendAnswer) : (s.setSends l).trace = s.trace := rfl
@[simp] theorem State.setSends_drawn (s : State) (l : List SendAnswer) : (s.setSends l).drawn = s.drawn := rfl

@[simp] theorem State.setRecvs_session (s : State) (l : List RecvAnswer) : (s.setRecvs l).session = s.session := rfl
@[simp] theorem State.setRecvs_cfg (s : State) (l : List RecvAnswer) : (s.setRecvs l).cfg = s.cfg := rfl
@[simp] theorem State.setRecvs_phase (s : State) (l : List RecvAnswer) : (s.setRecvs l).phase = s.phase := rfl
@[simp] theorem State.setRecvs_claimed (s : State) (l : List RecvAnswer) : (s.setRecvs l).claimed = s.claimed := rfl
@[simp] theorem State.setRecvs_requests (s : State) (l : List RecvAnswer) : (s.setRecvs l).requests = s.requests := rfl
@[simp] theorem State.setRecvs_inProgress (s : State) (l : List RecvAnswer) : (s.setRecvs l).inProgress = s.inProgress := rfl
@[simp] theorem State.setRecvs_result (s : State) (l : List RecvAnswer) : (s.setRecvs l).result = s.result := rfl
@[simp] theorem State.setRecvs_sends (s : State) (l : List RecvAnswer) : (s.setRecvs l).sends = s.sends := rfl
@[simp] theorem State.setRecvs_recvs (s : State) (l : List RecvAnswer) : (s.setRecvs l).recvs = l := rfl
@[simp] theorem State.setRecvs_trace (s : State) (l : List RecvAnswer) : (s.setRecvs l).trace = s.trace := rfl
@[simp] theorem State.setRecvs_drawn (s : State) (l : List RecvAnswer) : (s.setRecvs l).drawn = s.drawn := rfl

@[simp] theorem State.setResult_session (s : State) (r : Option Result) : (s.setResult r).session = s.session := rfl
@[simp] theorem State.setResult_cfg (s : State) (r : Option Result) : (s.setResult r).cfg = s.cfg := rfl
@[simp] theorem State.setResult_phase (s : State) (r : Option Result) : (s.setResult r).phase = s.phase := rfl
@[simp] theorem State.setResult_claimed (s : State) (r : Option Result) : (s.setResult r).claimed = s.claimed := rfl
@[simp] theorem State.setResult_requests (s : State) (r : Option Result) : (s.setResult r).requests = s.requests := rfl
@[simp] theorem State.setResult_inProgress (s : State) (r : Option Result) : (s.setResult r).inProgress = s.inProgress := rfl
@[simp] theorem State.setResult_result (s : State) (r : Option Result) : (s.setResult r).result = r := rfl
@[simp] theorem State.setResult_sends (s : State) (r : Option Result) : (s.setResult r).sends = s.sends := rfl
@[simp] theorem State.setResult_recvs (s : State) (r : Option Result) : (s.setResult r).recvs = s.recvs := rfl
@[simp] theorem State.setResult_trace (s : State) (r : Option Result) : (s.setResult r).trace = s.trace := rfl
@[simp] theorem State.setResult_drawn (s : State) (r : Option Result) : (s.setResult r).drawn = s.drawn := rfl

@[simp] theorem State.setInProgress_session (s : State) (i : Option Instr) : (s.setInProgress i).session = s.session := rfl
@[simp] theorem State.setInProgress_cfg (s : State) (i : Option Instr) : (s.setInProgress i).cfg = s.cfg := rfl
@[simp] theorem State.setInProgress_phase (s : State) (i : Option Instr) : (s.setInProgress i).phase = s.phase := rfl
@[simp] theorem State.setInProgress_claimed (s : State) (i : Option Instr) : (s.setInProgress i).claimed = s.claimed := rfl
@[simp] theorem State.setInProgress_requests (s : State) (i : Option Instr) : (s.setInProgress i).requests = s.requests := rfl
@[simp] theorem State.setInProgress_inProgress (s : State) (i : Option Instr) : (s.setInProgress i).inProgress = i := rfl
@[simp] theorem State.setInProgress_result (s : State) (i : Option Instr) : (s.setInProgress i).result = s.result := rfl
@[simp] theorem State.setInProgress_sends (s : State) (i : Option Instr) : (s.setInProgress i).sends = s.sends := rfl
@[simp] theorem State.setInProgress_recvs (s : State) (i : Option Instr) : (s.setInProgress i).recvs = s.recvs := rfl
@[simp] theorem State.setInProgress_trace (s : State) (i : Option Instr) : (s.setInProgress i).trace = s.trace := rfl
@[simp] theorem State.setInProgress_drawn (s : State) (i : Option Instr) : (s.setInProgress i).drawn = s.drawn := rfl

@[simp] theorem State.setPhase_session (s : State) (p : Phase) : (s.setPhase p).session = s.session := rfl
@[simp] theorem State.setPhase_cfg (s : State) (p : Phase) : (s.setPhase p).cfg = s.cfg := rfl
@[simp] theorem State.setPhase_phase (s : State) (p : Phase) : (s.setPhase p).phase = p := rfl
@[simp] theorem State.setPhase_claimed (s : State) (p : Phase) : (s.setPhase p).claimed = s.claimed := rfl
@[simp] theorem State.setPhase_requests (s : State) (p : Phase) : (s.setPhase p).requests = s.requests := rfl
@[simp] theorem State.setPhase_inProgress (s : State) (p : Phase) : (s.setPhase p).inProgress = s.inProgress := rfl
@[simp] theorem State.setPhase_result (s : State) (p : Phase) : (s.setPhase p).result = s.result := rfl
@[simp] theorem State.setPhase_sends (s : State) (p : Phase) : (s.setPhase p).sends = s.sends := rfl
@[simp] theorem State.setPhase_recvs (s : State) (p : Phase) : (s.setPhase p).recvs = s.recvs := rfl
@[simp] theorem State.setPhase_trace (s : State) (p : Phase) : (s.setPhase p).trace = s.trace := rfl
@[simp] theorem State.setPhase_drawn (s : State) (p : Phase) : (s.setPhase p).drawn = s.drawn := rfl

@[simp] theorem State.setClaimed_session (s : State) (b : Bool) : (s.setClaimed b).session = s.session := rfl
@[simp] theorem State.setClaimed_cfg (s : State) (b : Bool) : (s.setClaimed b).cfg = s.cfg := rfl
@[simp] theorem State.setClaimed_phase (s : State) (b : Bool) : (s.setClaimed b).phase = s.phase := rfl
@[simp] theorem State.setClaimed_claimed (s : State) (b : Bool) : (s.setClaimed b).claimed = b := rfl
@[simp] theorem State.setClaimed_requests (s : State) (b : Bool) : (s.setClaimed b).requests = s.requests := rfl
@[simp] theorem State.setClaimed_inProgress (s : State) (b : Bool) : (s.setClaimed b).inProgress = s.inProgress := rfl
@[simp] theorem State.setClaimed_result (s : State) (b : Bool) : (s.setClaimed b).result = s.result := rfl
@[simp] theorem State.setClaimed_sends (s : State) (b : Bool) : (s.setClaimed b).sends = s.sends := rfl
@[simp] theorem State.setClaimed_recvs (s : State) (b : Bool) : (s.setClaimed b).recvs = s.recvs := rfl
@[simp] theorem State.setClaimed_trace (s : State) (b : Bool) : (s.setClaimed b).trace = s.trace := rfl
@[simp] theorem State.setClaimed_drawn (s : State) (b : Bool) : (s.setClaimed b).drawn = s.drawn := rfl

@[simp] theorem State.setRequests_session (s : State) (l : List Request) : (s.setRequests l).session = s.session := rfl
@[simp] theorem State.setRequests_cfg (s : State) (l : List Request) : (s.setRequests l).cfg = s.cfg := rfl
@[simp] theorem State.setRequests_phase (s : State) (l : List Request) : (s.setRequests l).phase = s.phase := rfl
@[simp] theorem State.setRequests_claimed (s : State) (l : List Request) : (s.setRequests l).claimed = s.claimed := rfl
@[simp] theorem State.setRequests_requests (s : State) (l : List Request) : (s.setRequests l).requests = l := rfl
@[simp] theorem State.setRequests_inProgress (s : State) (l : List Request) : (s.setRequests l).inProgress = s.inProgress := rfl
@[simp] theorem State.setRequests_result (s : State) (l : List Request) : (s.setRequests l).result = s.result := rfl
@[simp] theorem State.setRequests_sends (s : State) (l : List Request) : (s.setRequests l).sends = s.sends := rfl
@[simp] theorem State.setRequests_recvs (s : State) (l : List Request) : (s.setRequests l).recvs = s.recvs := rfl
@[simp] theorem State.setRequests_trace (s : State) (l : List Request) : (s.setRequests l).trace = s.trace := rfl
@[simp] theorem State.setRequests_drawn (s : State) (l : List Request) : (s.setRequests l).drawn = s.drawn := rfl

@[simp] theorem State.setDrawn_session (s : State) (k : Nat) : (s.setDrawn k).session = s.session := rfl
@[simp] theorem State.setDrawn_cfg (s : State) (k : Nat) : (s.setDrawn k).cfg = s.cfg := rfl
@[simp] theorem State.setDrawn_phase (s : State) (k : Nat) : (s.setDrawn k).phase = s.phase := rfl
@[simp] theorem State.setDrawn_claimed (s : State) (k : Nat) : (s.setDrawn k).claimed = s.claimed := rfl
@[simp] theorem State.setDrawn_requests (s : State) (k : Nat) : (s.setDrawn k).requests = s.requests := rfl
@[simp] theorem State.setDrawn_inProgress (s : State) (k : Nat) : (s.setDrawn k).inProgress = s.inProgress := rfl
@[simp] theorem State.setDrawn_result (s : State) (k : Nat) : (s.setDrawn k).result = s.result := rfl
@[simp] theorem State.setDrawn_sends (s : State) (k : Nat) : (s.setDrawn k).sends = s.sends := rfl
@[simp] theorem State.setDrawn_recvs (s : State) (k : Nat) : (s.setDrawn k).recvs = s.recvs := rfl
@[simp] theorem State.setDrawn_trace (s : State) (k : Nat) : (s.setDrawn k).trace = s.trace := rfl
@[simp] theorem State.setDrawn_drawn (s : State) (k : Nat) : (s.setDrawn k).drawn = k := rfl

end Sys2Proof.Machine
end

