-- ==== Sys2Proof/Laws/Ops.lean ====
section
/-! SUPPORT. What the shared operations of Machine/Ops.lean can do, said once each: the control primitives, the
transport primitives (every outcome, and the outcome when the transport answers), the end of an operation.
`Res.Sat` is a triple over the three outcomes of a piece of an operation. -/

namespace Sys2Proof.Machine

section control

variable {α β : Type}

@[simp] theorem Res.bind_ok (v : α) (s : State) (k : α → State → Res β) : (Res.ok v s).bind k = k v s := rfl
@[simp] theorem Res.bind_err (e : Error) (s : State) (k : α → State → Res β) :
    (Res.err e s : Res α).bind k = .err e s := rfl
@[simp] theorem Res.bind_blocked (s : State) (k : α → State → Res β) :
    (Res.blocked s : Res α).bind k = .blocked s := rfl
@[simp] theorem Res.attempt_ok (v : α) (s : State) : (Res.ok v s).attempt = .ok none s := rfl
@[simp] theorem Res.attempt_err (e : Error) (s : State) : (Res.err e s : Res α).attempt = .ok (some e) s := rfl
@[simp] theorem Res.attempt_blocked (s : State) : (Res.blocked s : Res α).attempt = .blocked s := rfl
@[simp] theorem Res.value_ok (v : α) (s : State) (f : α → Value) : (Res.ok v s).value f = .ok (f v) s := rfl
@[simp] theorem Res.value_err (e : Error) (s : State) (f : α → Value) :
    (Res.err e s : Res α).value f = .err e s := rfl
@[simp] theorem Res.value_blocked (s : State) (f : α → Value) :
    (Res.blocked s : Res α).value f = .blocked s := rfl
@[simp] theorem raiseIf_some (e : Error) (s : State) : raiseIf (some e) s = .err e s := rfl
@[simp] theorem raiseIf_none (s : State) : raiseIf none s = .ok () s := rfl

/-- A value satisfies P, an error E, a block B. -/
def Res.Sat (r : Res α) (P : α → State → Prop) (E : Error → State → Prop) (B : State → Prop) : Prop :=
  match r with
  | .ok v s => P v s
  | .err e s => E e s
  | .blocked s => B s

@[simp] theorem Res.sat_ok {P : α → State → Prop} {E B} (v : α) (s : State) :
    (Res.ok v s).Sat P E B ↔ P v s := Iff.rfl
@[simp] theorem Res.sat_err {P : α → State → Prop} {E B} (e : Error) (s : State) :
    (Res.err e s).Sat P E B ↔ E e s := Iff.rfl
@[simp] theorem Res.sat_blocked {P : α → State → Prop} {E B} (s : State) :
    (Res.blocked s).Sat P E B ↔ B s := Iff.rfl

theorem Res.Sat.mono {r : Res α} {P P' : α → State → Prop} {E E' : Error → State → Prop} {B B' : State → Prop}
    (h : r.Sat P E B) (hP : ∀ v s, P v s → P' v s) (hE : ∀ e s, E e s → E' e s) (hB : ∀ s, B s → B' s) :
    r.Sat P' E' B' := by
  cases r with
  | ok v s => exact hP v s h
  | err e s => exact hE e s h
  | blocked s => exact hB s h

/-- Sequencing: an error or a block of the first piece is the outcome of the whole. -/
theorem Res.Sat.bind {r : Res α} {k : α → State → Res β} {Q : α → State → Prop} {P : β → State → Prop}
    {E : Error → State → Prop} {B : State → Prop} (h : r.Sat Q E B) (hk : ∀ v s, Q v s → (k v s).Sat P E B) :
    (r.bind k).Sat P E B := by
  cases r with
  | ok v s => exact hk v s h
  | err e s => exact h
  | blocked s => exact h

/-- A caught error goes on as a value. -/
theorem Res.Sat.attempt {r : Res α} {P : Option Error → State → Prop} {E : Error → State → Prop} {B : State → Prop}
    (h : r.Sat (fun _ s => P none s) (fun e s => P (some e) s) B) : r.attempt.Sat P E B := by
  cases r with
  | ok v s => exact h
  | err e s => exact h
  | blocked s => exact h

theorem Res.Sat.value {r : Res α} {f : α → Value} {P : Value → State → Prop} {E : Error → State → Prop}
    {B : State → Prop} (h : r.Sat (fun v s => P (f v) s) E B) : (r.value f).Sat P E B := by
  cases r with
  | ok v s => exact h
  | err e s => exact h
  | blocked s => exact h

end control

section transport

/-- Everything a Send can do. -/
theorem send_cases (f : Frame) (s : State) :
    (∃ rest, s.sends = .ok :: rest ∧ send f s =
      .ok () ((s.setSends rest).log (.send (outEp s.cfg s.session.variant) f (some .ok)))) ∨
    (∃ e rest, s.sends = .fail e :: rest ∧ send f s = .err (.transportSend e)
      ((s.setSends rest).log (.send (outEp s.cfg s.session.variant) f (some (.fail e))))) ∨
    (s.sends = [] ∧ send f s = .blocked (s.log (.send (outEp s.cfg s.session.variant) f none))) := by
  unfold send
  split
  · next h => exact .inr (.inr ⟨h, rfl⟩)
  · next rest h => exact .inl ⟨rest, h, rfl⟩
  · next e rest h => exact .inr (.inl ⟨e, rest, h, rfl⟩)

/-- Everything a Recv can do. -/
theorem recv_cases (n : Nat) (s : State) :
    (∃ b rest, s.recvs = .ok b :: rest ∧ b.length = n ∧ recv n s =
      .ok b ((s.setRecvs rest).log (.recv s.cfg.inEp n (some (.ok b))))) ∨
    (∃ b rest, s.recvs = .ok b :: rest ∧ b.length ≠ n ∧ recv n s =
      .err (.transportRecv .short) ((s.setRecvs rest).log (.recv s.cfg.inEp n (some (.ok b))))) ∨
    (∃ e rest, s.recvs = .fail e :: rest ∧ recv n s =
      .err (.transportRecv (.value e)) ((s.setRecvs rest).log (.recv s.cfg.inEp n (some (.fail e))))) ∨
    (s.recvs = [] ∧ recv n s = .blocked (s.log (.recv s.cfg.inEp n none))) := by
  unfold recv
  split
  · next h => exact .inr (.inr (.inr ⟨h, rfl⟩))
  · next b rest h =>
    by_cases hb : b.length = n
    · exact .inl ⟨b, rest, h, hb, by simp [hb]⟩
    · exact .inr (.inl ⟨b, rest, h, hb, by simp [hb]⟩)
  · next e rest h => exact .inr (.inr (.inl ⟨e, rest, h, rfl⟩))

/-- A command the transport answers. -/
theorem transact_answered {s : State} {n : Nat} {b : List Byte} (f : Frame) (h : Answers s n b) :
    transact f n s = .ok b (s.exchanged f n b) := by
  obtain ⟨hs, hr⟩ := h
  obtain ⟨ss, hss⟩ : ∃ ss, s.sends = .ok :: ss := by
    cases hl : s.sends with
    | nil => simp [hl] at hs
    | cons x xs => exact ⟨xs, by simp [hl] at hs; rw [hs]⟩
  unfold transact send
  simp only [hss, Res.bind_ok]
  split at hr
  · next hn =>
    subst hr
    simp [hn, State.exchanged, exchangeEvents, State.log, State.setSends, hss]
  · next hn =>
    obtain ⟨rs, hrs⟩ : ∃ rs, s.recvs = .ok b :: rs := by
      cases hl : s.recvs with
      | nil => simp [hl] at hr
      | cons x xs => exact ⟨xs, by simp [hl] at hr; rw [hr.1]⟩
    simp [hn, recv, hrs, hr.2, State.exchanged, exchangeEvents, State.log, State.setSends, State.setRecvs, hss]

/-- A command the transport answers, by its name. -/
theorem command_answered {s : State} {op : FrameOp} {n : Nat} {b : List Byte} (h : Answers s n b) :
    command op n s = .ok b (s.exchanged (encodeFrame s.cfg op) n b) :=
  transact_answered _ h

theorem send_failed {s : State} {e : Nat} {rest : List SendAnswer} (f : Frame) (h : s.sends = .fail e :: rest) :
    send f s = .err (.transportSend e)
      ((s.setSends rest).log (.send (outEp s.cfg s.session.variant) f (some (.fail e)))) := by
  simp [send, h]

theorem transact_send_failed {s : State} {e : Nat} {rest : List SendAnswer} (f : Frame) (n : Nat)
    (h : s.sends = .fail e :: rest) : transact f n s = .err (.transportSend e)
      ((s.setSends rest).log (.send (outEp s.cfg s.session.variant) f (some (.fail e)))) := by
  simp [transact, send_failed f h]

@[simp] theorem prologue_of_open {s : State} (h : s.session.isOpen = true) : prologue s = .ok () s := by
  simp [prologue, h]

@[simp] theorem prologue_of_closed {s : State} (h : s.session.isOpen = false) :
    prologue s = .err .closed s := by
  simp [prologue, h]

/-- Reading the fields of a reply never fails; it moves nothing but the count of free values. -/
theorem fields_eq (n : Nat) (b : List Byte) (s : State) :
    fields n b s = .ok (filled n b s.drawn) (s.setDrawn (s.drawn + (n - b.length))) := rfl

/-- A reply that holds the fields is read as it is, and no free value is drawn. -/
theorem fields_of_length {n : Nat} {b : List Byte} (s : State) (h : n ≤ b.length) :
    fields n b s = .ok b s := by
  rw [fields_eq, filled_of_length _ h, Nat.sub_eq_zero_of_le h]
  rfl

/-- An acknowledged command the transport answers. -/
theorem ackCommand_answered {s : State} {op : FrameOp} {n : Nat} {b : List Byte} (r : RunState)
    (ho : s.session.isOpen = true) (h : Answers s n b) :
    ackCommand op n r s = .ok () ((s.exchanged (encodeFrame s.cfg op) n b).setRun r) := by
  simp [ackCommand, ho, command_answered h]

end transport

section exchanged

variable (s : State) (f : Frame) (n : Nat) (b : List Byte)

@[simp] theorem State.exchanged_session : (s.exchanged f n b).session = s.session := rfl
@[simp] theorem State.exchanged_cfg : (s.exchanged f n b).cfg = s.cfg := rfl
@[simp] theorem State.exchanged_phase : (s.exchanged f n b).phase = s.phase := rfl
@[simp] theorem State.exchanged_claimed : (s.exchanged f n b).claimed = s.claimed := rfl
@[simp] theorem State.exchanged_requests : (s.exchanged f n b).requests = s.requests := rfl
@[simp] theorem State.exchanged_inProgress : (s.exchanged f n b).inProgress = s.inProgress := rfl
@[simp] theorem State.exchanged_result : (s.exchanged f n b).result = s.result := rfl
@[simp] theorem State.exchanged_sends : (s.exchanged f n b).sends = s.sends.tail := rfl
@[simp] theorem State.exchanged_recvs :
    (s.exchanged f n b).recvs = if n = 0 then s.recvs else s.recvs.tail := rfl
@[simp] theorem State.exchanged_trace :
    (s.exchanged f n b).trace = s.trace ++ exchangeEvents s f n b := rfl

@[simp] theorem State.exchanged_drawn : (s.exchanged f n b).drawn = s.drawn := rfl

@[simp] theorem State.answered_drawn (r : Result) : (s.answered r).drawn = s.drawn := rfl
@[simp] theorem State.answered_cfg (r : Result) : (s.answered r).cfg = s.cfg := rfl
@[simp] theorem State.answered_result (r : Result) : (s.answered r).result = some r := rfl
@[simp] theorem State.answered_seq (r : Result) : (s.answered r).session.seq = 0 := rfl
@[simp] theorem State.answered_run (r : Result) : (s.answered r).session.run = s.session.run := rfl
@[simp] theorem State.answered_cpuid (r : Result) : (s.answered r).session.cpuid = s.session.cpuid := rfl
@[simp] theorem State.answered_isOpen (r : Result) : (s.answered r).session.isOpen = s.session.isOpen := rfl
@[simp] theorem State.answered_trace (r : Result) : (s.answered r).trace = s.trace := rfl
@[simp] theorem State.answered_phase (r : Result) : (s.answered r).phase = s.phase := rfl
@[simp] theorem State.answered_inProgress (r : Result) : (s.answered r).inProgress = s.inProgress := rfl

@[simp] theorem State.exchanged_setRun (r : RunState) :
    (s.setRun r).exchanged f n b = (s.exchanged f n b).setRun r := rfl
@[simp] theorem State.exchanged_setSeq (k : Nat) :
    (s.setSeq k).exchanged f n b = (s.exchanged f n b).setSeq k := rfl
@[simp] theorem State.exchanged_setCpuid (v : Word) :
    (s.setCpuid v).exchanged f n b = (s.exchanged f n b).setCpuid v := rfl

@[simp] theorem State.exchanged_setDrawn (k : Nat) :
    (s.setDrawn k).exchanged f n b = (s.exchanged f n b).setDrawn k := rfl

@[simp] theorem answers_setDrawn (k : Nat) : Answers (s.setDrawn k) n b ↔ Answers s n b := Iff.rfl
@[simp] theorem answers_setRun (r : RunState) : Answers (s.setRun r) n b ↔ Answers s n b := Iff.rfl
@[simp] theorem answers_setSeq (k : Nat) : Answers (s.setSeq k) n b ↔ Answers s n b := Iff.rfl
@[simp] theorem answers_setCpuid (v : Word) : Answers (s.setCpuid v) n b ↔ Answers s n b := Iff.rfl
@[simp] theorem answers_begin : Answers (begin s) n b ↔ Answers s n b := Iff.rfl

end exchanged

section operation

@[simp] theorem begin_session (s : State) : (begin s).session = { s.session with seq := 1 } := rfl
@[simp] theorem begin_cfg (s : State) : (begin s).cfg = s.cfg := rfl
@[simp] theorem begin_phase (s : State) : (begin s).phase = s.phase := rfl
@[simp] theorem begin_claimed (s : State) : (begin s).claimed = s.claimed := rfl
@[simp] theorem begin_requests (s : State) : (begin s).requests = s.requests := rfl
@[simp] theorem begin_inProgress (s : State) : (begin s).inProgress = s.inProgress := rfl
@[simp] theorem begin_result (s : State) : (begin s).result = none := rfl
@[simp] theorem begin_sends (s : State) : (begin s).sends = s.sends := rfl
@[simp] theorem begin_recvs (s : State) : (begin s).recvs = s.recvs := rfl
@[simp] theorem begin_trace (s : State) : (begin s).trace = s.trace := rfl
@[simp] theorem begin_drawn (s : State) : (begin s).drawn = s.drawn := rfl

@[simp] theorem finish_ok (i : Instr) (v : Value) (s : State) : finish i (.ok v s) = s.answered (.ok v) := rfl
@[simp] theorem finish_err (i : Instr) (e : Error) (s : State) : finish i (.err e s) = s.answered (.err e) := rfl
@[simp] theorem finish_blocked (i : Instr) (s : State) :
    finish i (.blocked s) = s.setInProgress (some i) := rfl

/-- An operation that may run ends, or blocks, as its body does. -/
theorem perform_ready {s : State} (i : Instr) (body : State → Res Value) (h : Ready s) :
    perform i body s = .next (finish i (body (begin s))) := by
  simp [perform, show s.inProgress = none from h]

/-- Everything an operation's answer says: it could run, and this is how its body came out. -/
theorem perform_next {i : Instr} {body : State → Res Value} {s t : State} (h : perform i body s = .next t) :
    s.inProgress = none ∧ t = finish i (body (begin s)) := by
  unfold perform at h
  split at h
  · cases h
  · next h1 => exact ⟨by simpa using h1, by simpa using h.symm⟩

/-- An operation is refused while another is in progress. -/
theorem perform_overlap {s : State} (i : Instr) (body : State → Res Value) (h : s.inProgress ≠ none) :
    perform i body s = .refused .requestOverlap := by
  unfold perform
  rw [if_pos (Option.isSome_iff_ne_none.mpr h)]

end operation

end Sys2Proof.Machine
end

