-- ==== Sys2Proof/Laws/Exchange.lean ====
section
/-! SUPPORT. Everything the prologue, a `Transact` and an acknowledged command can do, and how a sequence of
served commands (`exchangedAll`, `AnswersAll`) is put together. -/

namespace Sys2Proof.Machine

/-- Everything the prologue can do (R100). -/
theorem prologue_cases (s : State) :
    (s.session.isOpen = true ∧ prologue s = .ok () s) ∨
    (s.session.isOpen = false ∧ prologue s = .err .closed s) := by
  cases h : s.session.isOpen
  · exact .inr ⟨rfl, prologue_of_closed h⟩
  · exact .inl ⟨rfl, prologue_of_open h⟩

/-- Every error of a `Transact` is the transport's (R13), and whatever the outcome the session record, the
configuration and the host's side of the state are untouched: only the answers left and the port log
move. -/
theorem transact_sat (f : Frame) (n : Nat) (s : State) :
    let same := fun t : State => t.session = s.session ∧ t.cfg = s.cfg ∧ t.phase = s.phase ∧
      t.claimed = s.claimed ∧ t.requests = s.requests ∧ t.inProgress = s.inProgress ∧ t.result = s.result
    (transact f n s).Sat (fun b t => same t ∧ Answers s n b ∧ t = s.exchanged f n b)
      (fun e t => same t ∧ ((∃ x, e = .transportSend x) ∨ ∃ x, e = .transportRecv x)) same := by
  intro same
  have ans : ∀ b, Answers s n b → (transact f n s).Sat
      (fun b t => same t ∧ Answers s n b ∧ t = s.exchanged f n b)
      (fun e t => same t ∧ ((∃ x, e = .transportSend x) ∨ ∃ x, e = .transportRecv x)) same := by
    intro b h
    rw [transact_answered f h]
    exact ⟨⟨rfl, rfl, rfl, rfl, rfl, rfl, rfl⟩, h, rfl⟩
  rcases send_cases f s with ⟨rest, h, e⟩ | ⟨x, rest, h, e⟩ | ⟨h, e⟩
  · by_cases hn : n = 0
    · exact ans [] ⟨by simp [h], by simp [hn]⟩
    · rcases recv_cases n ((s.setSends rest).log
        (.send (outEp s.cfg s.session.variant) f (some .ok))) with
        ⟨b, r, h2, hl, _⟩ | ⟨b, r, h2, hl, e2⟩ | ⟨x, r, h2, e2⟩ | ⟨h2, e2⟩
      · exact ans b ⟨by simp [h], by
          have : s.recvs = .ok b :: r := h2
          simp [hn, this, hl]⟩
      all_goals
        unfold transact
        rw [e, Res.bind_ok, if_neg hn, e2]
      · exact ⟨⟨rfl, rfl, rfl, rfl, rfl, rfl, rfl⟩, .inr ⟨_, rfl⟩⟩
      · exact ⟨⟨rfl, rfl, rfl, rfl, rfl, rfl, rfl⟩, .inr ⟨_, rfl⟩⟩
      · exact ⟨rfl, rfl, rfl, rfl, rfl, rfl, rfl⟩
  · unfold transact
    rw [e]
    exact ⟨⟨rfl, rfl, rfl, rfl, rfl, rfl, rfl⟩, .inl ⟨_, rfl⟩⟩
  · unfold transact
    rw [e]
    exact ⟨rfl, rfl, rfl, rfl, rfl, rfl, rfl⟩

/-- A `Transact` that comes out with a value was answered. -/
theorem transact_ok {f : Frame} {n : Nat} {s t : State} {b : List Byte} (h : transact f n s = .ok b t) :
    Answers s n b ∧ t = s.exchanged f n b := by
  have := transact_sat f n s
  rw [h] at this
  exact this.2

/-- An acknowledged command that comes out with a value ran on an open session and was answered. -/
theorem ackCommand_ok {op : FrameOp} {n : Nat} {r : RunState} {s t : State}
    (h : ackCommand op n r s = .ok () t) :
    s.session.isOpen = true ∧
      ∃ b, Answers s n b ∧ t = (s.exchanged (encodeFrame s.cfg op) n b).setRun r := by
  unfold ackCommand at h
  rcases prologue_cases s with ⟨ho, e⟩ | ⟨_, e⟩ <;> rw [e] at h
  · refine ⟨ho, ?_⟩
    simp only [Res.bind_ok, command] at h
    cases ht : transact (encodeFrame s.cfg op) n s with
    | ok b u =>
      rw [ht] at h
      obtain ⟨a, rfl⟩ := transact_ok ht
      exact ⟨b, a, by simpa using h.symm⟩
    | err e u => rw [ht] at h; cases h
    | blocked u => rw [ht] at h; cases h
  · cases h

/-- A fire-and-forget Send is a `Transact` that asks for no reply. -/
theorem send_eq_transact (f : Frame) (s : State) :
    send f s = (transact f 0 s).bind fun _ t => .ok () t := by
  unfold transact
  rcases send_cases f s with ⟨_, _, e⟩ | ⟨_, _, _, e⟩ | ⟨_, e⟩ <;> rw [e] <;> rfl

section sequence

variable (s : State) (l m : List Exchange)

theorem exchangedAll_append : s.exchangedAll (l ++ m) = (s.exchangedAll l).exchangedAll m := by
  induction l generalizing s with
  | nil => rfl
  | cons x xs ih => obtain ⟨f, n, b⟩ := x; exact ih (s.exchanged f n b)

theorem answersAll_append :
    AnswersAll s (l ++ m) ↔ AnswersAll s l ∧ AnswersAll (s.exchangedAll l) m := by
  induction l generalizing s with
  | nil => simp [AnswersAll, State.exchangedAll]
  | cons x xs ih =>
    obtain ⟨f, n, b⟩ := x
    simp [AnswersAll, State.exchangedAll, ih, and_assoc]

@[simp] theorem exchangedAll_cfg : (s.exchangedAll l).cfg = s.cfg := by
  induction l generalizing s with
  | nil => rfl
  | cons x xs ih => obtain ⟨f, n, b⟩ := x; exact ih (s.exchanged f n b)

@[simp] theorem exchangedAll_session : (s.exchangedAll l).session = s.session := by
  induction l generalizing s with
  | nil => rfl
  | cons x xs ih => obtain ⟨f, n, b⟩ := x; exact ih (s.exchanged f n b)

theorem exchangedAll_setSeq (k : Nat) : (s.setSeq k).exchangedAll l = (s.exchangedAll l).setSeq k := by
  induction l generalizing s with
  | nil => rfl
  | cons x xs ih => obtain ⟨f, n, b⟩ := x; exact ih (s.exchanged f n b)

theorem exchangedAll_setRun (r : RunState) :
    (s.setRun r).exchangedAll l = (s.exchangedAll l).setRun r := by
  induction l generalizing s with
  | nil => rfl
  | cons x xs ih => obtain ⟨f, n, b⟩ := x; exact ih (s.exchanged f n b)

theorem exchangedAll_setCpuid (v : Word) :
    (s.setCpuid v).exchangedAll l = (s.exchangedAll l).setCpuid v := by
  induction l generalizing s with
  | nil => rfl
  | cons x xs ih => obtain ⟨f, n, b⟩ := x; exact ih (s.exchanged f n b)

theorem exchangedAll_begin : (begin s).exchangedAll l = begin (s.exchangedAll l) := by
  induction l generalizing s with
  | nil => rfl
  | cons x xs ih => obtain ⟨f, n, b⟩ := x; exact ih (s.exchanged f n b)

/-- Only the answers the transport has left count. -/
theorem answersAll_of_ports {s t : State} {l : List Exchange} (hs : t.sends = s.sends)
    (hr : t.recvs = s.recvs) (h : AnswersAll s l) : AnswersAll t l := by
  induction l generalizing s t with
  | nil => exact trivial
  | cons x xs ih =>
    obtain ⟨f, n, b⟩ := x
    obtain ⟨h1, h2⟩ := h
    refine ⟨?_, ih ?_ ?_ h2⟩
    · unfold Answers at h1 ⊢
      rw [hs, hr]
      exact h1
    · simp [hs]
    · simp [hr]

end sequence

end Sys2Proof.Machine
end

