-- ==== Sys2Proof/Laws/Memory.lean ====
section
/-! SUPPORT. The laws of the target memory: every write keeps the canonical form, a read after a write gives
the value, and a write leaves every other byte alone. -/

namespace Sys2Proof.Machine

theorem putCell_lookup_self (a : Nat) (b : Byte) (l : List Host.Cell)
    (h : l.Pairwise fun x y => x.1 < y.1) : ((putCell a b l).lookup a).getD unlisted = b := by
  induction l with
  | nil => by_cases hb : b = unlisted <;> simp [putCell, hb]
  | cons c l ih =>
    obtain ⟨k, v⟩ := c
    have hp := List.pairwise_cons.mp h
    have hnone : a ≤ k → l.lookup a = none := by
      intro hk
      rw [List.lookup_eq_none_iff]
      intro p hpm
      have := hp.1 p hpm
      simp only [bne_iff_ne, ne_eq]
      simp at this ⊢
      omega
    unfold putCell
    split
    · next hlt =>
      have hne : (a == k) = false := by simp; omega
      split
      · next hb => simp [List.lookup_cons, hne, hnone (by omega), hb]
      · simp
    · split
      · next hak =>
        split
        · next hb => simp [hnone (by omega), hb]
        · simp
      · next hak =>
        have hne : (a == k) = false := by simpa using hak
        simp [List.lookup_cons, hne, ih hp.2]

theorem putCell_lookup_other (a a' : Nat) (b : Byte) (l : List Host.Cell) (hne : a' ≠ a) :
    (putCell a b l).lookup a' = l.lookup a' := by
  have hne' : (a' == a) = false := by simpa using hne
  induction l with
  | nil => by_cases hb : b = unlisted <;> simp [putCell, hb, List.lookup_cons, hne']
  | cons c l ih =>
    obtain ⟨k, v⟩ := c
    unfold putCell
    split
    · split <;> simp [List.lookup_cons, hne']
    · split
      · next hak =>
        subst hak
        split <;> simp [List.lookup_cons, hne']
      · simp [List.lookup_cons, ih]

theorem putCell_mem {a : Nat} {b : Byte} {l : List Host.Cell} {c : Host.Cell} (h : c ∈ putCell a b l) :
    c ∈ l ∨ (c = (a, b) ∧ b ≠ unlisted) := by
  induction l with
  | nil =>
    unfold putCell at h
    split at h
    · cases h
    · next hb => exact .inr ⟨by simpa using h, hb⟩
  | cons d l ih =>
    obtain ⟨k, v⟩ := d
    unfold putCell at h
    split at h
    · split at h
      · exact .inl h
      · next hb =>
        rcases List.mem_cons.mp h with rfl | h
        · exact .inr ⟨rfl, hb⟩
        · exact .inl h
    · split at h
      · split at h
        · exact .inl (List.mem_cons_of_mem _ h)
        · next hb =>
          rcases List.mem_cons.mp h with rfl | h
          · exact .inr ⟨rfl, hb⟩
          · exact .inl (List.mem_cons_of_mem _ h)
      · rcases List.mem_cons.mp h with rfl | h
        · exact .inl List.mem_cons_self
        · rcases ih h with h | h
          · exact .inl (List.mem_cons_of_mem _ h)
          · exact .inr h

theorem putCell_rising (a : Nat) (b : Byte) (l : List Host.Cell) (h : l.Pairwise fun x y => x.1 < y.1) :
    (putCell a b l).Pairwise fun x y => x.1 < y.1 := by
  induction l with
  | nil => unfold putCell; split <;> simp
  | cons c l ih =>
    obtain ⟨k, v⟩ := c
    have hp := List.pairwise_cons.mp h
    unfold putCell
    split
    · next hlt =>
      split
      · exact h
      · refine List.pairwise_cons.mpr ⟨?_, h⟩
        intro p hpm
        rcases List.mem_cons.mp hpm with rfl | hpm
        · exact hlt
        · exact Nat.lt_trans hlt (hp.1 p hpm)
    · split
      · next hak =>
        split
        · exact hp.2
        · refine List.pairwise_cons.mpr ⟨?_, hp.2⟩
          intro p hpm
          simpa [hak] using hp.1 p hpm
      · next hlt hak =>
        refine List.pairwise_cons.mpr ⟨?_, ih hp.2⟩
        intro p hpm
        rcases putCell_mem hpm with hpm | ⟨rfl, -⟩
        · exact hp.1 p hpm
        · show k < a
          omega

theorem Memory.wf_iff (m : Memory) : m.wf = true ↔
    (m.cells.Pairwise fun x y => x.1 < y.1) ∧ ∀ c ∈ m.cells, c.2 ≠ unlisted ∧ c.1 < addressSpace := by
  simp [Memory.wf, List.all_eq_true]

theorem Memory.empty_wf : (Memory.mk []).wf = true := rfl

/-- A byte written inside the address space keeps the canonical form. -/
theorem Memory.writeByte_wf (m : Memory) (a : Nat) (b : Byte) (h : m.wf = true) (ha : a < addressSpace) :
    (m.writeByte a b).wf = true := by
  rw [Memory.wf_iff] at h ⊢
  refine ⟨putCell_rising a b _ h.1, fun c hc => ?_⟩
  rcases putCell_mem hc with hc | ⟨rfl, hb⟩
  · exact h.2 c hc
  · exact ⟨hb, ha⟩

/-- A read after a write to the same address gives the byte written. -/
theorem Memory.readByte_writeByte_self (m : Memory) (a : Nat) (b : Byte) (h : m.wf = true) :
    (m.writeByte a b).readByte a = b :=
  putCell_lookup_self a b m.cells ((Memory.wf_iff m).mp h).1

/-- A write leaves every other address alone. -/
theorem Memory.readByte_writeByte_other (m : Memory) (a a' : Nat) (b : Byte) (h : a' ≠ a) :
    (m.writeByte a b).readByte a' = m.readByte a' := by
  simp [Memory.readByte, Memory.writeByte, putCell_lookup_other a a' b m.cells h]

theorem aligned_iff (a : Word) : aligned a = true ↔ a.toNat % 4 = 0 := by
  rw [aligned, beq_iff_eq, ← BitVec.toNat_inj]
  simp [BitVec.extractLsb'_toNat]

/-- An aligned word lies inside the address space. -/
theorem aligned_end (a : Word) (h : aligned a = true) : a.toNat + 3 < addressSpace := by
  have h4 := (aligned_iff a).mp h
  have hlt := a.isLt
  unfold addressSpace
  omega

/-- A word written at an aligned address keeps the canonical form. -/
theorem Memory.write32_wf (m : Memory) (a v : Word) (h : m.wf = true) (ha : aligned a = true) :
    (m.write32 a v).wf = true := by
  have he := aligned_end a ha
  unfold Memory.write32
  refine Memory.writeByte_wf _ _ _ (Memory.writeByte_wf _ _ _ (Memory.writeByte_wf _ _ _
    (Memory.writeByte_wf _ _ _ h ?_) ?_) ?_) ?_ <;> omega

/-- A byte outside the four written reads as before. -/
theorem Memory.readByte_write32_other (m : Memory) (a v : Word) (x : Nat)
    (h : x < a.toNat ∨ a.toNat + 3 < x) : (m.write32 a v).readByte x = m.readByte x := by
  unfold Memory.write32
  rw [Memory.readByte_writeByte_other _ _ _ _ (by omega), Memory.readByte_writeByte_other _ _ _ _ (by omega),
    Memory.readByte_writeByte_other _ _ _ _ (by omega), Memory.readByte_writeByte_other _ _ _ _ (by omega)]

/-- A word written at an aligned address reads back (R15, R56). -/
theorem Memory.read32_write32 (m : Memory) (a v : Word) (h : m.wf = true) (ha : aligned a = true) :
    (m.write32 a v).read32 a = v := by
  have hend := aligned_end a ha
  have w1 := Memory.writeByte_wf m a.toNat (v.extractLsb' 0 8) h (by omega)
  have w2 := Memory.writeByte_wf _ (a.toNat + 1) (v.extractLsb' 8 8) w1 (by omega)
  have w3 := Memory.writeByte_wf _ (a.toNat + 2) (v.extractLsb' 16 8) w2 (by omega)
  have other : ∀ (n : Memory) (x y : Nat) (b : Byte), y ≠ x → (n.writeByte x b).readByte y = n.readByte y :=
    fun n x y b hne => Memory.readByte_writeByte_other n x y b hne
  unfold Memory.read32 Memory.write32
  rw [Memory.readByte_writeByte_self _ _ _ w3, other _ _ (a.toNat + 2) _ (by omega),
    Memory.readByte_writeByte_self _ _ _ w2, other _ _ (a.toNat + 1) _ (by omega),
    other _ _ (a.toNat + 1) _ (by omega), Memory.readByte_writeByte_self _ _ _ w1,
    other _ _ a.toNat _ (by omega), other _ _ a.toNat _ (by omega), other _ _ a.toNat _ (by omega),
    Memory.readByte_writeByte_self _ _ _ h]
  exact word_of_fields v

end Sys2Proof.Machine
end

