-- ==== Sys2Proof/Laws/PerInstr.lean ====
section
/-! SUPPORT. Statements made once per constructor of Instr. -/

namespace Sys2Proof.Laws.WellFormedRequest

/-- R70, R81: the request an operation encodes to has an assigned code, the number of arguments the code
takes, and arguments of its widths. -/
def Statement (i : Instr) : Prop := (encodeRequest i).wellFormed = true

theorem mode : Statement (.mode) := rfl

theorem exitDfu : Statement (.exitDfu) := rfl

theorem enterSwd : Statement (.enterSwd) := rfl

theorem sessionInit : Statement (.sessionInit) := rfl

theorem close : Statement (.close) := rfl

theorem version : Statement (.version) := rfl

theorem targetVoltage : Statement (.targetVoltage) := rfl

theorem status : Statement (.status) := rfl

theorem halt : Statement (.halt) := rfl

theorem step : Statement (.step) := rfl

theorem run : Statement (.run) := rfl

theorem reset : Statement (.reset) := rfl

theorem hardReset : Statement (.hardReset) := rfl

theorem forceDebug : Statement (.forceDebug) := rfl

theorem coreId : Statement (.coreId) := rfl

theorem read32 (a : Word) : Statement (.read32 a) := rfl

theorem write32 (a w : Word) : Statement (.write32 a w) := rfl

theorem read16 (a : Word) : Statement (.read16 a) := rfl

theorem cpuId : Statement (.cpuId) := rfl

theorem coreResetHalt : Statement (.coreResetHalt) := rfl

theorem cortexPartNumber : Statement (.cortexPartNumber) := rfl

theorem chipId : Statement (.chipId) := rfl

theorem devId : Statement (.devId) := rfl

theorem familyGroup (f : Code12) : Statement (.familyGroup f) := by
  have h := f.isLt
  simp [Statement, Request.wellFormed, encodeRequest, Instr.code, Instr.args, requestArity]
  omega

theorem flashSize : Statement (.flashSize) := rfl

theorem clockSpeed : Statement (.clockSpeed) := rfl

end Sys2Proof.Laws.WellFormedRequest
end

