-- ==== Sys2Proof/Machine/ProgramText.lean ====
section
/-! DEFINITION. The program text of 30_encoding.md R83: lines `OP` or `OP arg, arg`, arguments in
hexadecimal, a `-> result` left aside. A line's mnemonic is the operation's name in R70. -/

namespace Sys2Proof

/-- R70, R83: the name of an operation. -/
def Instr.mnemonic : Instr → String
  | .mode => "MODE"
  | .exitDfu => "EXIT_DFU"
  | .enterSwd => "ENTER_SWD"
  | .sessionInit => "SESSION_INIT"
  | .close => "CLOSE"
  | .version => "VERSION"
  | .targetVoltage => "TARGET_VOLTAGE"
  | .status => "STATUS"
  | .halt => "HALT"
  | .step => "STEP"
  | .run => "RUN"
  | .reset => "RESET"
  | .hardReset => "HARD_RESET"
  | .forceDebug => "FORCE_DEBUG"
  | .coreId => "CORE_ID"
  | .read32 _ => "READ32"
  | .write32 _ _ => "WRITE32"
  | .read16 _ => "READ16"
  | .cpuId => "CPU_ID"
  | .coreResetHalt => "CORE_RESET_HALT"
  | .cortexPartNumber => "CORTEX_PART_NUMBER"
  | .chipId => "CHIP_ID"
  | .devId => "DEV_ID"
  | .familyGroup _ => "FAMILY_GROUP"
  | .flashSize => "FLASH_SIZE"
  | .clockSpeed => "CLOCK_SPEED"

/-- The operations, each with the arguments given: what a mnemonic is looked up in. -/
def instrsWith (a w : Word) (f : Code12) : List Instr :=
  [.mode, .exitDfu, .enterSwd, .sessionInit, .close, .version, .targetVoltage, .status, .halt, .step,
   .run, .reset, .hardReset, .forceDebug, .coreId, .read32 a, .write32 a w, .read16 a, .cpuId,
   .coreResetHalt, .cortexPartNumber, .chipId, .devId, .familyGroup f, .flashSize, .clockSpeed]

/-- A hexadecimal digit's value. -/
def hexDigit (c : Char) : Option Nat :=
  if '0' ≤ c ∧ c ≤ '9' then some (c.toNat - 48)
  else if 'A' ≤ c ∧ c ≤ 'F' then some (c.toNat - 55)
  else if 'a' ≤ c ∧ c ≤ 'f' then some (c.toNat - 87)
  else none

/-- The value of hexadecimal digits, after a value already read. -/
def hexValue (n : Nat) : List Char → Option Nat
  | [] => some n
  | c :: rest => (hexDigit c).bind fun d => hexValue (16 * n + d) rest

/-- R10, R83: `0x` and at least one hexadecimal digit. -/
def hexNumber : List Char → Option Nat
  | '0' :: 'x' :: d :: rest => hexValue 0 (d :: rest)
  | _ => none

/-- R83: a line up to its `-> result`. -/
def beforeArrow : List Char → List Char
  | [] => []
  | '-' :: '>' :: _ => []
  | c :: rest => c :: beforeArrow rest

/-- The words of a line: spaces and commas part them. -/
def words (acc : List Char) : List Char → List (List Char)
  | [] => if acc = [] then [] else [acc]
  | c :: rest =>
    if c = ' ' ∨ c = ',' then (if acc = [] then words [] rest else acc :: words [] rest)
    else words (acc ++ [c]) rest

/-- The width of an operation's arguments (R70). -/
def Instr.argBits (i : Instr) : Nat := if i.code = familyGroupCode then 12 else 32

/-- R83: the operation a line names; none where the mnemonic is unknown, or the arguments are not of the
number and widths of R70. -/
def parseLine (line : List Char) : Option Instr :=
  match words [] (beforeArrow line) with
  | [] => none
  | name :: args =>
    (args.mapM hexNumber).bind fun ns =>
      let a := ns.getD 0 0
      (instrsWith (BitVec.ofNat 32 a) (BitVec.ofNat 32 (ns.getD 1 0)) (BitVec.ofNat 12 a)).find? fun i =>
        i.mnemonic.toList == name && i.args.length == ns.length && ns.all (fun n => n < 2 ^ i.argBits)

/-- A program is a sequence of lines (R83). -/
def parseProgram (lines : List String) : Option (List Instr) := lines.mapM fun l => parseLine l.toList

end Sys2Proof
end

