-- ==== Sys2Proof/Tests/Slice0.lean ====
section
/-! SUPPORT. Tests: ill-formed terms the checks refuse, words and frames written out from the spec's encodings,
the vectors of 95_test_vectors.md one step each, and for every statement of Obligations.lean that has
hypotheses a theorem `witness_<Name>` with a state and operands that meet them all. -/

namespace Sys2Proof.Tests

open Sys2Proof.Machine

/-- The default configuration with the OPEN rows given: the two flash rows of R227, one family row, and
endpoint numbers. -/
def cfg : Config :=
  { Config.default with
    flashSizeAddr := [(0x419, 0x1FFF7A22), (0x440, 0x1FFFF7CC)]
    familyGroup := [(0x419, .g3)]
    outEpA := 2
    outEpB := 1
    inEp := 3 }

/-- An opened, idle session with a run state, a cached CPUID and the transport's answers. -/
def st (run : RunState) (cpuid : Word) (sends : List SendAnswer) (recvs : List RecvAnswer) : State :=
  { State.created cfg .variantA with
    phase := .ready
    session := { Session.created .variantA with run := run, cpuid := cpuid }
    sends := sends
    recvs := recvs }

/-- A session just created. -/
def fresh (sends : List SendAnswer) (recvs : List RecvAnswer) : State :=
  { State.created cfg .variantA with sends := sends, recvs := recvs }

/-- A closed session. -/
def shut : State := ((st .halted 0x410FC241 [] []).setOpen false).setClaimed false

/-- The state an operation leaves. -/
def after (i : Instr) (s : State) : State :=
  match exec i s with
  | .next t => t
  | .fault _ => s
  | .refused _ => s

/-- The state a step leaves. -/
def stepped (s : State) : State :=
  match step s with
  | .next t => t
  | .fault _ => s
  | .refused _ => s

/-- A 2-byte reply. -/
def ack2 : List Byte := [0x80, 0x00]

/-- An 8-byte write ack. -/
def ack8 : List Byte := [0x80, 0, 0, 0, 0, 0, 0, 0]

/-- A READ32 reply with a data word, and the status word 80 00 00 00 of the vectors. -/
def data (w : Word) : List Byte :=
  [0x80, 0, 0, 0, w.extractLsb' 0 8, w.extractLsb' 8 8, w.extractLsb' 16 8, w.extractLsb' 24 8]

/-- `..` of the vectors: bytes up to byte 15 are 0x00. -/
def pad (b : List Byte) : Frame := b ++ List.replicate (16 - b.length) 0

/-! Well-formedness: each check refuses an ill-formed term. -/

theorem test_reserved_code_is_ill_formed : (Request.mk 0x1B []).wellFormed = false := by decide

theorem test_missing_argument_is_ill_formed : (Request.mk 0x10 []).wellFormed = false := by decide

theorem test_wide_family_is_ill_formed : (Request.mk 0x18 [0x1000]).wellFormed = false := by decide

theorem test_short_frame_is_ill_formed : Frame.wellFormed (List.replicate 15 0) = false := by decide

theorem test_config_is_well_formed : cfg.wellFormed = true ∧ cfg.framesDistinct = true := by decide

theorem test_empty_mode_reply_is_ill_formed : { cfg with respLenMode := 0 }.lengthsHold = false := by decide

theorem test_short_voltage_is_ill_formed : { cfg with respLenVoltage := 7 }.lengthsHold = false := by decide

theorem test_short_core_id_is_ill_formed : { cfg with respLenCoreId := 3 }.lengthsHold = false := by decide

theorem test_equal_part_numbers_are_ill_formed : { cfg with pnM7 := 0xC24 }.partNumbersDistinct = false := by
  decide

theorem test_missing_flash_row_is_ill_formed : { cfg with flashSizeAddr := [] }.flashTableOk = false := by
  decide

theorem test_odd_flash_address_is_ill_formed :
    { cfg with flashSizeAddr := (0x123, 0x20000001) :: cfg.flashSizeAddr }.flashTableOk = false := by decide

theorem test_narrow_mask_is_ill_formed : { cfg with read16Mask := 0x00007FFF }.maskOk = false := by decide

theorem test_equal_heads_are_ill_formed : { cfg with dbgRunCore := 0x0A }.framesDistinct = false := by decide

/-- R261, R271: a closed session raises Closed before any reply is read, under every configuration. -/
theorem test_closed_before_short_lengths :
    (after .mode { shut with cfg := { cfg with respLenMode := 0 } }).result = some (.err .closed) ∧
    (after .coreId { shut with cfg := { cfg with respLenCoreId := 2 } }).result = some (.err .closed) := by decide

/-- MODE with RESP_LEN_MODE = 0: a frame, no Recv, some mode. -/
theorem test_mode_without_reply :
    ∃ m, (after .mode { st .halted 0 [.ok] [] with cfg := { cfg with respLenMode := 0 } }).result =
      some (.ok (.mode m)) := ⟨_, rfl⟩

/-- A reference of 0 in a 4-byte reply raises, whatever stands for the measured sample. -/
theorem test_voltage_half_reply :
    ∃ m, (after .targetVoltage { st .halted 0 [.ok] [.ok [0, 0, 0, 0]] with cfg :=
      { cfg with respLenVoltage := 4 } }).result = some (.err (.measuredVoltageZero m)) := ⟨_, rfl⟩

theorem test_fetch_word_is_served :
    step (State.reset.withFetchWord 8 0x0B) = exec .run (State.reset.setPhase .ready) := rfl

/-! Host request codes, from the table of R70. -/

theorem test_codes_mode_session :
    decodeRequest ⟨0x01, []⟩ = .ok .mode ∧ decodeRequest ⟨0x02, []⟩ = .ok .exitDfu ∧
    decodeRequest ⟨0x03, []⟩ = .ok .enterSwd ∧ decodeRequest ⟨0x04, []⟩ = .ok .sessionInit ∧
    decodeRequest ⟨0x05, []⟩ = .ok .close := by decide

theorem test_codes_codec :
    decodeRequest ⟨0x06, []⟩ = .ok .version ∧ decodeRequest ⟨0x07, []⟩ = .ok .targetVoltage := by decide

theorem test_codes_core_control :
    decodeRequest ⟨0x08, []⟩ = .ok .status ∧ decodeRequest ⟨0x09, []⟩ = .ok .halt ∧
    decodeRequest ⟨0x0A, []⟩ = .ok .step ∧ decodeRequest ⟨0x0B, []⟩ = .ok .run ∧
    decodeRequest ⟨0x0C, []⟩ = .ok .reset ∧ decodeRequest ⟨0x0D, []⟩ = .ok .hardReset ∧
    decodeRequest ⟨0x0E, []⟩ = .ok .forceDebug ∧ decodeRequest ⟨0x0F, []⟩ = .ok .coreId := by decide

theorem test_codes_memory :
    decodeRequest ⟨0x10, [0x20000000]⟩ = .ok (.read32 0x20000000) ∧
    decodeRequest ⟨0x11, [0x20000000, 0xDEADBEEF]⟩ = .ok (.write32 0x20000000 0xDEADBEEF) ∧
    decodeRequest ⟨0x12, [0x20000002]⟩ = .ok (.read16 0x20000002) ∧
    decodeRequest ⟨0x13, []⟩ = .ok .cpuId ∧ decodeRequest ⟨0x14, []⟩ = .ok .coreResetHalt ∧
    decodeRequest ⟨0x1A, []⟩ = .ok .clockSpeed := by decide

theorem test_codes_chip_identification :
    decodeRequest ⟨0x15, []⟩ = .ok .cortexPartNumber ∧ decodeRequest ⟨0x16, []⟩ = .ok .chipId ∧
    decodeRequest ⟨0x17, []⟩ = .ok .devId ∧ decodeRequest ⟨0x18, [0x419]⟩ = .ok (.familyGroup 0x419) ∧
    decodeRequest ⟨0x19, []⟩ = .ok .flashSize := by decide

theorem test_codes_refused :
    decodeRequest ⟨0x00, []⟩ = .error .reservedCode ∧ decodeRequest ⟨0x1B, []⟩ = .error .reservedCode ∧
    decodeRequest ⟨0xFF, [1]⟩ = .error .reservedCode ∧ decodeRequest ⟨0x01, [0]⟩ = .error .badArguments ∧
    decodeRequest ⟨0x18, [0x1000]⟩ = .error .badArguments := by decide

/-! Wire frames, from V1 to V3 of 95_test_vectors.md. -/

theorem test_frames_one_byte :
    decodeFrame cfg (pad [0xF5]) = .ok .mode ∧ decodeFrame cfg (pad [0xF1]) = .ok .version ∧
    decodeFrame cfg (pad [0xF7]) = .ok .targetVoltage := by decide

theorem test_frames_two_bytes :
    decodeFrame cfg (pad [0xF3, 0x07]) = .ok .exitDfu ∧ decodeFrame cfg (pad [0xF2, 0x01]) = .ok .status ∧
    decodeFrame cfg (pad [0xF2, 0x0A]) = .ok .stepCore ∧ decodeFrame cfg (pad [0xF2, 0x09]) = .ok .run ∧
    decodeFrame cfg (pad [0xF2, 0x32]) = .ok .reset ∧ decodeFrame cfg (pad [0xF2, 0x02]) = .ok .forceDebug ∧
    decodeFrame cfg (pad [0xF2, 0x22]) = .ok .coreId := by decide

theorem test_frames_with_parameter :
    decodeFrame cfg (pad [0xF2, 0x30, 0xA3]) = .ok .enterSwd ∧
    decodeFrame cfg (pad [0xF2, 0x3C, 0x02]) = .ok .hardReset := by decide

theorem test_frames_read32 :
    decodeFrame cfg (pad [0xF2, 0x36, 0x00, 0xED, 0x00, 0xE0]) = .ok (.read32 0xE000ED00) ∧
    decodeFrame cfg (pad [0xF2, 0x36, 0xCC, 0xF7, 0xFF, 0x1F]) = .ok (.read32 0x1FFFF7CC) ∧
    decodeFrame cfg (pad [0xF2, 0x36, 0x01]) = .ok (.read32 0x00000001) := by decide

theorem test_frames_write32 :
    decodeFrame cfg (pad [0xF2, 0x35, 0x00, 0x00, 0x00, 0x20, 0xEF, 0xBE, 0xAD, 0xDE]) =
      .ok (.write32 0x20000000 0xDEADBEEF) ∧
    decodeFrame cfg (pad [0xF2, 0x35, 0xF0, 0xED, 0x00, 0xE0, 0x03, 0x00, 0x5F, 0xA0]) =
      .ok (.write32 0xE000EDF0 0xA05F0003) ∧
    decodeFrame cfg (pad [0xF2, 0x35, 0x01, 0x00, 0x00, 0x20, 0x04, 0x03, 0x02, 0x01]) =
      .ok (.write32 0x20000001 0x01020304) := by decide

theorem test_frames_encoded :
    encodeFrame cfg (.write32 0x20000000 0xDEADBEEF) =
      [0xF2, 0x35, 0x00, 0x00, 0x00, 0x20, 0xEF, 0xBE, 0xAD, 0xDE, 0, 0, 0, 0, 0, 0] ∧
    encodeFrame cfg (.read32 0xE0042000) = [0xF2, 0x36, 0x00, 0x20, 0x04, 0xE0, 0, 0, 0, 0, 0, 0, 0, 0, 0, 0] ∧
    encodeFrame cfg .hardReset = [0xF2, 0x3C, 0x02, 0, 0, 0, 0, 0, 0, 0, 0, 0, 0, 0, 0, 0] := by decide

theorem test_frames_refused :
    decodeFrame cfg (pad [0xF2, 0x0B]) = .error .unknownCommand ∧
    decodeFrame cfg (pad [0xF2, 0x30, 0xA4]) = .error .unknownCommand ∧
    decodeFrame cfg (pad [0xF5, 0x00, 0x01]) = .error .strayBytes ∧
    decodeFrame cfg [0xF5] = .error .badLength := by decide

theorem test_table_words_core_control :
    decodeTableWord 24 0xF20A00 = some .halt ∧ decodeTableWord 24 0xF20900 = some .run ∧
    decodeTableWord 24 0xF23200 = some .reset ∧ decodeTableWord 24 0xF20200 = some .forceDebug ∧
    decodeTableWord 24 0xF22200 = some .coreId ∧ decodeTableWord 24 0xF30700 = some .exitDfu ∧
    decodeTableWord 24 0xF70000 = some .targetVoltage := by decide

/-! Program text (R83), lines of the programs of 95_test_vectors.md. -/

theorem test_line_write : parseLine "WRITE32 0x20000000, 0xDEADBEEF".toList =
    some (.write32 0x20000000 0xDEADBEEF) := by decide

theorem test_line_with_result : parseLine "READ16  0x20000003          -> error UnalignedAccess".toList =
    some (.read16 0x20000003) := by decide

theorem test_line_wide_family : parseLine "FAMILY_GROUP 0x1000".toList = none := by decide

theorem test_program : parseProgram ["CORE_RESET_HALT", "STATUS                    -> Halted"] =
    some [.coreResetHalt, .status] := by decide

/-! Operations, one step each; the vectors' families are named. -/

/-- V6: MODE. -/
theorem test_mode_mass : (after .mode (st .halted 0 [.ok] [.ok [0x01]])).result = some (.ok (.mode .mass)) := by
  decide

theorem test_mode_any_other_byte :
    (after .mode (st .halted 0 [.ok] [.ok [0xFF]])).result = some (.ok (.mode .unknown)) := by decide

theorem test_exit_dfu_reads_nothing :
    (after .exitDfu (st .halted 0 [.ok] [.ok [0x09]])).recvs = [.ok [0x09]] := by decide

theorem test_enter_swd_frame :
    newFrames (st .halted 0 [.ok] []) (after .enterSwd (st .halted 0 [.ok] [])) =
      [pad [0xF2, 0x30, 0xA3]] := by decide

/-- P1: a probe found in DFU mode. -/
theorem test_session_init_from_dfu :
    newFrames (fresh [.ok, .ok, .ok, .ok, .ok] [.ok [0x00], .ok [0x01], .ok [0x81, 0x00]])
      (after .sessionInit (fresh [.ok, .ok, .ok, .ok, .ok] [.ok [0x00], .ok [0x01], .ok [0x81, 0x00]])) =
    [pad [0xF5], pad [0xF3, 0x07], pad [0xF5], pad [0xF2, 0x30, 0xA3], pad [0xF2, 0x01]] := by decide

/-- V6: the probe is already in Debug. -/
theorem test_session_init_in_debug :
    (after .sessionInit (fresh [.ok, .ok, .ok] [.ok [0x02], .ok [0x02], .ok ack2])).session =
      ⟨true, .running, 0, .variantA, 0⟩ := by decide

/-- V6: the second MODE fails, and the session is discarded. -/
theorem test_opening_aborts :
    (stepped (fresh [.ok, .ok, .ok] [.ok [0x00], .fail 7])).phase = .discarded ∧
    (stepped (fresh [.ok, .ok, .ok] [.ok [0x00], .fail 7])).result =
      some (.err (.transportRecv (.value 7))) := by decide

/-- V6: CLOSE on (open, Halted, 0x410FC241, 0). -/
theorem test_close_keeps_caches :
    (after .close (st .halted 0x410FC241 [] [])).session = ⟨false, .halted, 0x410FC241, .variantA, 0⟩ := by
  decide

theorem test_close_again : (after .close shut).trace = [] := by decide

/-- V4: 26 47 is V2J25S7. -/
theorem test_version :
    (after .version (st .halted 0 [.ok] [.ok [0x26, 0x47, 1, 2, 3, 4]])).result =
      some (.ok (.version ⟨2, 25, 7, "V2J25S7"⟩)) := by decide

/-- V5: 1000 and 500 give 6/5. -/
theorem test_voltage :
    (after .targetVoltage (st .halted 0 [.ok] [.ok [0xE8, 0x03, 0, 0, 0xF4, 0x01, 0, 0]])).result =
      some (.ok (.voltage ⟨1000, 500, 6 / 5⟩)) := by decide +kernel

/-- V5: a reference of 0. -/
theorem test_voltage_zero_reference :
    (after .targetVoltage (st .halted 0 [.ok] [.ok [0, 0, 0, 0, 0xF4, 0x01, 0, 0]])).result =
      some (.err (.measuredVoltageZero 500)) := by decide

/-- V7: STATUS. -/
theorem test_status_running :
    (after .status (st .halted 0 [.ok] [.ok [0x80, 0x00]])).session.run = .running := by decide

theorem test_status_other_byte :
    (after .status (st .halted 0 [.ok] [.ok [0x82, 0xFF]])).session.run = .unknown := by decide

theorem test_halt : (after .halt (st .running 0 [.ok] [.ok ack2])).session.run = .halted := by decide

theorem test_step : (after .step (st .unknown 0 [.ok] [.ok ack2])).session.run = .halted := by decide

theorem test_run : (after .run (st .halted 0 [.ok] [.ok ack2])).session.run = .running := by decide

theorem test_run_send_fails :
    (after .run (st .running 0 [.fail 3] [])).result = some (.err (.transportSend 3)) := by decide

theorem test_reset : (after .reset (st .halted 0 [.ok] [.ok ack2])).session.run = .unknown := by decide

theorem test_hard_reset : (after .hardReset (st .running 0 [.ok] [.ok ack2])).session.run = .unknown := by
  decide

theorem test_hard_reset_recv_fails :
    (after .hardReset (st .running 0 [.ok] [.fail 4])).session.run = .running := by decide

theorem test_force_debug : (after .forceDebug (st .running 0 [.ok] [.ok ack2])).session.run = .halted := by
  decide

theorem test_core_id :
    (after .coreId (st .halted 0 [.ok] [.ok [0x77, 0x14, 0xA0, 0x2B]])).result =
      some (.ok (.word 0x2BA01477)) := by decide

/-- V8: the echo word is ignored. -/
theorem test_read32 :
    (after (.read32 0xE000ED00) (st .halted 0 [.ok]
      [.ok [0xFF, 0xFF, 0xFF, 0xFF, 0x41, 0xC2, 0x0F, 0x41]])).result = some (.ok (.word 0x410FC241)) := by
  decide

theorem test_read32_short_reply :
    (after (.read32 0) (st .halted 0 [.ok] [.ok [0, 0, 0]])).result =
      some (.err (.transportRecv .short)) := by decide

/-- W3: the bracket. -/
theorem test_write32_bracket :
    newFrames (st .running 0 [.ok, .ok, .ok] [.ok ack2, .ok ack8, .ok ack2])
      (after (.write32 0x20000000 0xDEADBEEF) (st .running 0 [.ok, .ok, .ok] [.ok ack2, .ok ack8, .ok ack2])) =
    [pad [0xF2, 0x0A], pad [0xF2, 0x35, 0, 0, 0, 0x20, 0xEF, 0xBE, 0xAD, 0xDE], pad [0xF2, 0x09]] := by decide

/-- V8: the write's Recv and the RUN's Send both fail. -/
theorem test_write32_earliest_error :
    (after (.write32 0 0) (st .running 0 [.ok, .ok, .fail 2] [.ok ack2, .fail 1])).result =
      some (.err (.transportRecv (.value 1))) := by decide

/-- V9: the upper halfword. -/
theorem test_read16_upper :
    (after (.read16 0xFFFFFFFE) (st .halted 0 [.ok] [.ok (data 0xABCD0000)])).result =
      some (.ok (.half 0xABCD)) := by decide

theorem test_read16_odd :
    (after (.read16 0xFFFFFFFF) (st .halted 0 [] [])).result =
      some (.err (.unalignedAccess 0xFFFFFFFF)) := by decide

/-- V10: CPU_ID always reads. -/
theorem test_cpu_id :
    (after .cpuId (st .halted 0x410FC241 [.ok] [.ok (data 0x410CC601)])).session.cpuid = 0x410CC601 := by
  decide

/-- V10: Running, all ok: ten frames, the cache Unknown. -/
theorem test_core_reset_halt_running :
    (newFrames (st .running 0 (.replicate 10 .ok) [.ok ack2, .ok ack8, .ok ack2, .ok ack2, .ok ack8, .ok ack2,
        .ok ack2, .ok ack8, .ok ack2, .ok ack8])
      (after .coreResetHalt (st .running 0 (.replicate 10 .ok) [.ok ack2, .ok ack8, .ok ack2, .ok ack2, .ok ack8,
        .ok ack2, .ok ack2, .ok ack8, .ok ack2, .ok ack8]))).length = 10 := by decide

/-- V10: Running, the DEMCR write's Send fails: six frames, the cache Running. -/
theorem test_core_reset_halt_aborts :
    (after .coreResetHalt (st .running 0 [.ok, .ok, .ok, .ok, .fail 5, .ok]
      [.ok ack2, .ok ack8, .ok ack2, .ok ack2, .ok ack2])).session.run = .running := by decide

theorem test_clock_speed :
    (after .clockSpeed (st .halted 0 [] [])).result = some (.err (.notImplemented "clock-speed")) := by decide

theorem test_clock_speed_closed : (after .clockSpeed shut).result = some (.err .closed) := by decide

/-- V11: part number 0xC60 is M0P. -/
theorem test_part_number_cached :
    (after .cortexPartNumber (st .halted 0x410CC601 [] [])).result = some (.ok (.coreType .m0p)) := by decide

/-- V11: M1 is not M0-class. -/
theorem test_chip_id_m1 :
    newFrames (st .halted 0x410CC210 [.ok] [.ok (data 0)])
      (after .chipId (st .halted 0x410CC210 [.ok] [.ok (data 0)])) =
    [pad [0xF2, 0x36, 0x00, 0x20, 0x04, 0xE0]] := by decide

theorem test_dev_id :
    (after .devId (st .halted 0x410CC200 [.ok] [.ok (data 0x20006440)])).result =
      some (.ok (.family 0x440)) := by decide

theorem test_family_group :
    (after (.familyGroup 0x419) shut).result = some (.ok (.group .g3)) ∧
    (after (.familyGroup 0x418) shut).result = some (.ok (.group .unknownGroup)) := by decide

/-- V11: FLASH_SIZE of family 0x419. -/
theorem test_flash_size :
    (after .flashSize (st .halted 0x410FC241 [.ok, .ok] [.ok (data 0x10016419), .ok (data 0x0400FFFF)])).result =
      some (.ok (.half 0x0400)) := by decide

/-- V11: a family with no entry. -/
theorem test_flash_size_unknown_core :
    (after .flashSize (st .halted 0x410FC241 [.ok] [.ok (data 0x00000123)])).result =
      some (.err (.unknownCore 0x123)) := by decide

/-! Witnesses: for each statement with hypotheses, a state and operands that meet them, for each clause. -/

/-- `Answers` as a Bool. -/
def answersB (s : State) (n : Nat) (b : List Byte) : Bool :=
  s.sends.head? == some .ok && if n = 0 then b == [] else s.recvs.head? == some (.ok b) && b.length == n

theorem answers_of {s : State} {n : Nat} {b : List Byte} (h : answersB s n b = true) : Answers s n b := by
  unfold answersB at h
  unfold Answers
  split at h <;> simp_all

/-- `AnswersAll` as a Bool. -/
def answersAllB (s : State) : List Exchange → Bool
  | [] => true
  | (f, n, b) :: rest => answersB s n b && answersAllB (s.exchanged f n b) rest

theorem answersAll_of {s : State} {ex : List Exchange} (h : answersAllB s ex = true) : AnswersAll s ex := by
  induction ex generalizing s with
  | nil => trivial
  | cons x rest ih =>
    simp only [answersAllB, Bool.and_eq_true] at h
    exact ⟨answers_of h.1, ih h.2⟩

/-- An open session, idle, whose run state and CPUID cache are as given, may take an operation. -/
theorem openReady_st (r : RunState) (c : Word) (ss : List SendAnswer) (rs : List RecvAnswer) :
    OpenReady (st r c ss rs) := ⟨rfl, rfl⟩

theorem openReady_fresh (ss : List SendAnswer) (rs : List RecvAnswer) : OpenReady (fresh ss rs) :=
  ⟨rfl, rfl⟩

/-- A session with requests waiting. -/
def asked (rs : List Request) : State := (st .halted 0 [.ok] [.ok [0x02]]).setRequests rs

theorem witness_RequestCodecAgrees : decodeRequest ⟨0x18, [0xFFF]⟩ = .ok (.familyGroup 0xFFF) := by decide

theorem witness_ReservedCodesRefused : (asked []).inProgress = none ∧ (asked []).phase ≠ .opening ∧
    ∀ c ∈ [(0x00 : Byte), 0x1B, 0xFF], (asked [⟨c, []⟩]).requests = [⟨c, []⟩] ∧ (c = 0 ∨ 0x1B ≤ c.toNat) := by
  decide

theorem witness_FrameDecodeEncode : cfg.framesDistinct = true := by decide

theorem witness_FrameCheckerExact :
    decodeFrame cfg (pad [0xF2, 0x36, 0xFC, 0xFF, 0xFF, 0xFF]) = .ok (.read32 0xFFFFFFFC) := by decide

theorem witness_FrameLayout : (FrameOp.write32 0 0).assigned ≤ 10 ∧ FrameOp.mode.assigned ≤ 15 := by decide

theorem witness_StepRunsRequest : (asked []).inProgress = none ∧ (asked []).phase ≠ .opening ∧
    (asked []).requests = [] ∧ (asked [⟨0x01, []⟩]).requests = [⟨0x01, []⟩] ∧
    decodeRequest ⟨0x01, []⟩ = .ok .mode := by decide

theorem inv_fresh (ss : List SendAnswer) (rs : List RecvAnswer) : SessionInv (fresh ss rs) where
  seqIdle _ := rfl
  seqBound := by simp [fresh, State.created, Session.created]
  blockedNoResult h := absurd rfl h
  claimedIffOpen := rfl
  discardedClosed h := by simp [fresh, State.created] at h
  openingAsCreated _ := ⟨rfl, rfl, rfl⟩
  ordered := rfl
  idleAnswered _ _ := rfl
  frames := rfl

theorem witness_StepKeepsSessionInv :
    let s := fresh [.ok, .ok, .ok] [.ok [0x02], .ok [0x02], .ok ack2]
    SessionInv s ∧ step s = .next (stepped s) := ⟨inv_fresh _ _, rfl⟩

theorem witness_ReplyFields : 4 ≤ ([1, 2, 3, 4] : List Byte).length ∧ 3 < ([1, 2, 3, 4] : List Byte).length ∧
    ([1, 2, 3] : List Byte).length ≤ 3 ∧ 3 < 4 := by decide

/-- ModeResult with RESP_LEN_MODE = 0. -/
theorem witness_ModeResult_no_reply :
    let s := { st .halted 0 [.ok] [] with cfg := { cfg with respLenMode := 0 } }
    OpenReady s ∧ Answers s s.cfg.respLenMode [] := ⟨⟨rfl, rfl⟩, answers_of (by decide)⟩

theorem witness_ModeResult : let s := st .halted 0 [.ok] [.ok [0x02]]
    OpenReady s ∧ Answers s s.cfg.respLenMode [0x02] ∧ 1 ≤ s.cfg.respLenMode :=
  ⟨openReady_st .., answers_of (by decide), by decide⟩

theorem witness_FireAndForget : let s := st .halted 0 [.ok] []
    OpenReady s ∧ s.sends.head? = some .ok ∧ Answers s s.cfg.respLenEnterSwd [] :=
  ⟨openReady_st .., rfl, answers_of (by decide)⟩

/-- FireAndForget with RESP_LEN_ENTER_SWD = 1. -/
theorem witness_FireAndForget_reply :
    let s := { st .halted 0 [.ok] [.ok [0x80]] with cfg := { cfg with respLenEnterSwd := 1 } }
    OpenReady s ∧ s.sends.head? = some .ok ∧ Answers s s.cfg.respLenEnterSwd [0x80] :=
  ⟨⟨rfl, rfl⟩, rfl, answers_of (by decide)⟩

/-- The answers of a SESSION_INIT from DFU through Mass. -/
def initFromDfu (s : State) : List Exchange :=
  [served s .mode [0x00], served s .exitDfu [], served s .mode [0x01], served s .enterSwd [],
    served s .status [0x81, 0x00]]

theorem witness_SessionInitCompletes :
    let s := st .unknown 0 (.replicate 5 .ok) [.ok [0x00], .ok [0x01], .ok [0x81, 0x00]]
    OpenReady s ∧ AnswersAll s (initFromDfu s) := ⟨openReady_st .., answersAll_of (by decide)⟩

/-- SessionInitCompletes with RESP_LEN_MODE = 0: whatever modes the free values name, the answers suffice. -/
theorem witness_SessionInitCompletes_no_reply (m1 m2 : Byte) :
    let s := { st .unknown 0 (.replicate 5 .ok) [.ok [0x81, 0x00]] with cfg := { cfg with respLenMode := 0 } }
    OpenReady s ∧ AnswersAll s ([served s .mode []] ++
      (if m1 = 0x00 then [served s .exitDfu []] else []) ++ [served s .mode []] ++
      (if m2 = 0x02 then [] else [served s .enterSwd []]) ++ [served s .status [0x81, 0x00]]) := by
  refine ⟨⟨rfl, rfl⟩, ?_⟩
  split <;> split <;> exact answersAll_of (by decide)

theorem witness_SessionInitIgnoresExitDfuError :
    let s := st .unknown 0 [.ok, .fail 9, .ok, .ok] [.ok [0x00], .ok [0x02], .ok ack2]
    OpenReady s ∧ s.sends = .ok :: .fail 9 :: .ok :: .ok :: [] ∧ s.cfg.respLenMode ≠ 0 ∧
    s.recvs = [.ok [0x00]] ++ [.ok [0x02]] ++ .ok ack2 :: [] ∧ [(0x00 : Byte)].length = s.cfg.respLenMode ∧
    [(0x02 : Byte)].length = s.cfg.respLenMode ∧ ack2.length = 2 ∧
    (filled 1 [0x00] s.drawn).getD 0 0 = 0x00 ∧ (filled 1 [0x02] (s.drawn + (1 - 1))).getD 0 0 = 0x02 :=
  ⟨openReady_st .., rfl, by decide, rfl, rfl, rfl, rfl, rfl, rfl⟩

theorem witness_CloseEndsSession : Ready (st .halted 1 [] []) ∧ (st .halted 1 [] []).session.isOpen = true ∧
    Ready shut ∧ shut.session.isOpen = false := ⟨rfl, rfl, rfl, rfl⟩

theorem witness_VersionResult : let s := st .halted 0 [.ok] [.ok [0x26, 0x47, 0, 0, 0, 0]]
    OpenReady s ∧ Answers s 6 (0x26 :: 0x47 :: [0, 0, 0, 0]) := ⟨openReady_st .., answers_of (by decide)⟩

/-- TargetVoltageResult with RESP_LEN_VOLTAGE = 4. -/
theorem witness_TargetVoltageResult_half_reply :
    let s := { st .halted 0 [.ok] [.ok [0, 0, 0, 0]] with cfg := { cfg with respLenVoltage := 4 } }
    OpenReady s ∧ Answers s s.cfg.respLenVoltage [0, 0, 0, 0] ∧ sle32 (filled 8 [0, 0, 0, 0] s.drawn) 0 = 0 :=
  ⟨⟨rfl, rfl⟩, answers_of (by decide), rfl⟩

theorem witness_TargetVoltageResult :
    ∀ b ∈ [[0xE8, 0x03, 0, 0, 0xF4, 0x01, 0, 0], List.replicate 8 (0 : Byte)],
      OpenReady (st .halted 0 [.ok] [.ok b]) ∧ Answers (st .halted 0 [.ok] [.ok b]) 8 b := by
  intro b hb
  refine ⟨openReady_st .., answers_of ?_⟩
  revert b
  decide

/-- TargetVoltageResult: the two clauses. -/
theorem witness_TargetVoltageResult_clauses :
    sle32 (filled 8 (List.replicate 8 0) 0) 0 = 0 ∧
    sle32 (filled 8 [0xE8, 0x03, 0, 0, 0xF4, 0x01, 0, 0] 0) 0 ≠ 0 ∧ 8 ≤ cfg.respLenVoltage := by decide

theorem witness_StatusResult : let s := st .halted 0 [.ok] [.ok [0x80, 0xFF]]
    OpenReady s ∧ Answers s 2 [0x80, 0xFF] := ⟨openReady_st .., answers_of (by decide)⟩

theorem witness_AckCommandResults : let s := st .running 0 [.ok] [.ok [0x12, 0x34]]
    OpenReady s ∧ Answers s 2 [0x12, 0x34] ∧ Answers s s.cfg.respLenForceDebug [0x12, 0x34] :=
  ⟨openReady_st .., answers_of (by decide), answers_of (by decide)⟩

theorem witness_CoreIdResult : let s := st .halted 0 [.ok] [.ok [0x77, 0x14, 0xA0, 0x2B]]
    OpenReady s ∧ Answers s s.cfg.respLenCoreId [0x77, 0x14, 0xA0, 0x2B] ∧ 4 ≤ s.cfg.respLenCoreId :=
  ⟨openReady_st .., answers_of (by decide), by decide⟩

/-- CoreIdResult with RESP_LEN_COREID = 2. -/
theorem witness_CoreIdResult_half_reply :
    let s := { st .halted 0 [.ok] [.ok [0x77, 0x14]] with cfg := { cfg with respLenCoreId := 2 } }
    OpenReady s ∧ Answers s s.cfg.respLenCoreId [0x77, 0x14] := ⟨⟨rfl, rfl⟩, answers_of (by decide)⟩

theorem witness_Read32Result : let s := st .halted 0 [.ok] [.ok (data 0x12345678)]
    OpenReady s ∧ Answers s 8 (data 0x12345678) := ⟨openReady_st .., answers_of (by decide)⟩

theorem witness_Write32Result : let s := st .unknown 0 [.ok] [.ok ack8]
    OpenReady s ∧ s.session.run ≠ .running ∧ Answers s 8 ack8 :=
  ⟨openReady_st .., by decide, answers_of (by decide)⟩

/-- A running session whose transport answers a bracketed WRITE32. -/
def running3 : State := st .running 0 [.ok, .ok, .ok] [.ok ack2, .ok ack8, .ok ack2]

theorem witness_Write32Result_bracketed : OpenReady running3 ∧ running3.session.run = .running ∧
    AnswersAll running3 [served running3 .stepCore ack2, served running3 (.write32 0x20000000 1) ack8,
      served running3 .run ack2] := ⟨openReady_st .., rfl, answersAll_of (by decide)⟩

theorem witness_WriteBracketAlwaysResumes : OpenReady running3 ∧
    exec (.write32 4 1) running3 = .next (after (.write32 4 1) running3) ∧
    (after (.write32 4 1) running3).inProgress = none ∧ running3.session.run = .running ∧
    (let s := st .halted 0 [.ok] [.fail 1]
     OpenReady s ∧ exec (.write32 4 1) s = .next (after (.write32 4 1) s) ∧
      (after (.write32 4 1) s).inProgress = none ∧ s.session.run ≠ .running) :=
  ⟨openReady_st .., rfl, rfl, rfl, openReady_st .., rfl, rfl, by decide⟩

theorem witness_WriteErrorPrecedence : ack2.length = 2 ∧ ack8.length = 8 ∧
    ∀ (ss : List SendAnswer) (rs : List RecvAnswer), OpenReady (st .running 0 ss rs) ∧
      (st .running 0 ss rs).session.run = .running ∧ (st .running 0 ss rs).sends = ss ∧
      (st .running 0 ss rs).recvs = rs := ⟨rfl, rfl, fun _ _ => ⟨openReady_st .., rfl, rfl, rfl⟩⟩

theorem witness_Read16Result : let s := st .halted 0 [.ok] [.ok (data 0x12345678)]
    OpenReady s ∧ (0x20000003 : Word).getLsbD 0 = true ∧ (0xFFFFFFFE : Word).getLsbD 0 = false ∧
    (0x20000000 : Word).getLsbD 0 = false ∧ s.cfg.maskOk = true ∧ Answers s 8 (data 0x12345678) :=
  ⟨openReady_st .., by decide, by decide, by decide, by decide, answers_of (by decide)⟩

theorem witness_Read16MaskUnobservable : cfg.maskOk = true := by decide

theorem witness_CpuIdResult : let s := st .halted 7 [.ok] [.ok (data 0x410FC241)]
    OpenReady s ∧ Answers s 8 (data 0x410FC241) := ⟨openReady_st .., answers_of (by decide)⟩

theorem witness_CoreResetHaltCompletes :
    let s := st .halted 0 (.replicate 4 .ok) [.ok ack8, .ok ack8, .ok ack8, .ok (data 0x05FA0000)]
    OpenReady s ∧ s.session.run ≠ .running ∧ AnswersAll s
      [served s (.write32 s.cfg.dhcsrAddr s.cfg.dhcsrHaltWord) ack8,
       served s (.write32 s.cfg.demcrAddr s.cfg.demcrHaltAfterResetWord) ack8,
       served s (.write32 s.cfg.aircrAddr s.cfg.aircrResetWord) ack8,
       served s (.read32 s.cfg.aircrAddr) (data 0x05FA0000)] :=
  ⟨openReady_st .., by decide, answersAll_of (by decide)⟩

theorem witness_CoreResetHaltCompletes_bracketed :
    let s := st .running 0 (.replicate 10 .ok) [.ok ack2, .ok ack8, .ok ack2, .ok ack2, .ok ack8, .ok ack2,
      .ok ack2, .ok ack8, .ok ack2, .ok (data 0)]
    OpenReady s ∧ s.session.run = .running ∧ AnswersAll s
      [served s .stepCore ack2, served s (.write32 s.cfg.dhcsrAddr s.cfg.dhcsrHaltWord) ack8, served s .run ack2,
       served s .stepCore ack2, served s (.write32 s.cfg.demcrAddr s.cfg.demcrHaltAfterResetWord) ack8,
       served s .run ack2, served s .stepCore ack2,
       served s (.write32 s.cfg.aircrAddr s.cfg.aircrResetWord) ack8, served s .run ack2,
       served s (.read32 s.cfg.aircrAddr) (data 0)] := ⟨openReady_st .., rfl, answersAll_of (by decide)⟩

theorem witness_CoreResetHaltAborts : ack2.length = 2 ∧ ack8.length = 8 ∧
    ∀ r ∈ [RunState.halted, .running], ∀ (ss : List SendAnswer) (rs : List RecvAnswer), OpenReady (st r 0 ss rs) ∧
      (st r 0 ss rs).session.run = r ∧ (st r 0 ss rs).sends = ss ∧ (st r 0 ss rs).recvs = rs :=
  ⟨rfl, rfl, fun _ _ _ _ => ⟨openReady_st .., rfl, rfl, rfl⟩⟩

theorem witness_CortexPartNumberResult : OpenReady (st .halted 1 [] []) ∧ (st .halted 1 [] []).session.cpuid ≠ 0 ∧
    (let s := st .halted 0 [.ok] [.ok (data 0x410FC241)]
     OpenReady s ∧ s.session.cpuid = 0 ∧ Answers s 8 (data 0x410FC241)) :=
  ⟨openReady_st .., by decide, openReady_st .., rfl, answers_of (by decide)⟩

theorem witness_PartNumbersClassify : cfg.partNumbersDistinct = true ∧
    (0xD21 : Code12) ∉ [cfg.pnM0, cfg.pnM0P, cfg.pnM1, cfg.pnM3, cfg.pnM4, cfg.pnM7] := by decide

theorem witness_ChipIdAndDevIdResult :
    let s := st .halted 0x410CC200 [.ok] [.ok (data 0x20006440)]
    OpenReady s ∧ s.session.cpuid ≠ 0 ∧ AnswersAll s
      [served s (.read32 (chipIdAddr s.cfg (partDecode s.cfg (s.session.cpuid.extractLsb' 4 12))))
        (data 0x20006440)] := ⟨openReady_st .., by decide, answersAll_of (by decide)⟩

theorem witness_ChipIdAndDevIdResult_unread :
    let s := st .halted 0 [.ok, .ok] [.ok (data 0x410FC241), .ok (data 0x10016419)]
    OpenReady s ∧ s.session.cpuid = 0 ∧ AnswersAll s [served s (.read32 s.cfg.cpuidAddr) (data 0x410FC241),
      served s (.read32 (chipIdAddr s.cfg (partDecode s.cfg ((le32 (data 0x410FC241) 4).extractLsb' 4 12))))
        (data 0x10016419)] := ⟨openReady_st .., rfl, answersAll_of (by decide)⟩

theorem witness_FamilyGroupResult : Ready shut ∧ (∀ r ∈ shut.cfg.familyGroup, r.1 ≠ 0x418) ∧
    ∃ r ∈ shut.cfg.familyGroup, r.1 = 0x419 := ⟨rfl, by decide, by decide⟩

/-- FLASH_SIZE with the CPUID not yet read: a family with a row. -/
theorem witness_FlashSizeResult :
    let s := st .halted 0 (.replicate 3 .ok) [.ok (data 0x410FC241), .ok (data 0x10016419), .ok (data 0x0400FFFF)]
    OpenReady s ∧ s.cfg.flashTableOk = true ∧ s.cfg.maskOk = true ∧ s.session.cpuid = 0 ∧
    flashAddrOf s.cfg ((le32 (data 0x10016419) 4).extractLsb' 0 12) = some 0x1FFF7A22 ∧
    AnswersAll s [served s (.read32 s.cfg.cpuidAddr) (data 0x410FC241),
      served s (.read32 (chipIdAddr s.cfg (partDecode s.cfg ((le32 (data 0x410FC241) 4).extractLsb' 4 12))))
        (data 0x10016419), served s (.read32 (0x1FFF7A22 &&& 0xFFFFFFFC)) (data 0x0400FFFF)] :=
  ⟨openReady_st .., by decide, by decide, rfl, by decide, answersAll_of (by decide)⟩

/-- FLASH_SIZE with the CPUID cached: a family without a row. -/
theorem witness_FlashSizeResult_unknown :
    let s := st .halted 0x410FC241 [.ok] [.ok (data 0x123)]
    OpenReady s ∧ s.cfg.flashTableOk = true ∧ s.cfg.maskOk = true ∧ s.session.cpuid ≠ 0 ∧
    flashAddrOf s.cfg ((le32 (data 0x123) 4).extractLsb' 0 12) = none ∧
    AnswersAll s [served s (.read32 (chipIdAddr s.cfg (partDecode s.cfg (s.session.cpuid.extractLsb' 4 12))))
      (data 0x123)] :=
  ⟨openReady_st .., by decide, by decide, by decide, by decide, answersAll_of (by decide)⟩

theorem witness_ClockSpeedNotImplemented : OpenReady (st .halted 0 [] []) := openReady_st ..

/-- ClosedSessionRaisesClosed under a configuration with a short reply length. -/
theorem witness_ClosedSessionRaisesClosed_short :
    let s := { shut with cfg := { cfg with respLenVoltage := 0 } }
    Ready s ∧ s.session.isOpen = false ∧ Instr.targetVoltage ≠ .close ∧ ∀ f, Instr.targetVoltage ≠ .familyGroup f :=
  ⟨rfl, rfl, nofun, nofun⟩

theorem witness_ClosedSessionRaisesClosed : Ready shut ∧ shut.session.isOpen = false ∧
    Instr.flashSize ≠ .close ∧ ∀ f, Instr.flashSize ≠ .familyGroup f :=
  ⟨rfl, rfl, by decide, fun _ h => nomatch h⟩

/-- Operations whose first frame is looked for on a session with the cache Halted and the CPUID not yet read:
primitive and composite ones, READ16 at the top of its range. -/
def firstFrames : List (Instr × FrameOp) :=
  [(.write32 8 9, .write32 8 9), (.read16 0xFFFFFFFE, .read32 0xFFFFFFFC), (.cpuId, .read32 0xE000ED00),
   (.flashSize, .read32 0xE000ED00), (.sessionInit, .mode), (.coreResetHalt, .write32 0xE000EDF0 0xA05F0003)]

theorem not_bracketed_halted (i : Instr) (ss : List SendAnswer) (rs : List RecvAnswer) :
    ¬ bracketed (st .halted 0 ss rs) i := fun h => nomatch h.1

theorem witness_SendFailureRaises : let s := st .halted 0 [.fail 5] []
    OpenReady s ∧ (∀ p ∈ firstFrames, firstCommand s p.1 = some p.2 ∧ ¬ bracketed s p.1) ∧
    (firstCommand (st .running 7 [.fail 5] []) .chipId = some (.read32 0xE0042000) ∧
      ¬ bracketed (st .running 7 [.fail 5] []) .chipId) ∧ s.sends = .fail 5 :: [] :=
  ⟨openReady_st .., fun p hp => ⟨(by decide : ∀ p ∈ firstFrames, firstCommand _ p.1 = some p.2) p hp,
    not_bracketed_halted _ _ _⟩, ⟨by decide, fun h => h.2.elim nofun nofun⟩, rfl⟩

theorem witness_RecvFailureRaises :
    ∀ r ∈ [RecvAnswer.fail 5, .ok [1, 2, 3]], ∀ p ∈ firstFrames, let s := st .halted 0 [.ok] [r]
      OpenReady s ∧ firstCommand s p.1 = some p.2 ∧ respLen s.cfg p.2 ≠ 0 ∧ ¬ bracketed s p.1 ∧
      s.sends = .ok :: [] ∧ s.recvs = r :: [] ∧ [(1 : Byte), 2, 3].length ≠ respLen s.cfg p.2 :=
  fun _ _ p hp => ⟨openReady_st .., (by decide : ∀ p ∈ firstFrames, firstCommand (st .halted 0 [] []) p.1 =
      some p.2) p hp, (by decide : ∀ p ∈ firstFrames, respLen cfg p.2 ≠ 0) p hp, not_bracketed_halted _ _ _, rfl, rfl,
    (by decide : ∀ p ∈ firstFrames, 3 ≠ respLen cfg p.2) p hp⟩

/-- The write's ack and the RUN's Send both fail; the EXIT_DFU Send and the second MODE's ack both fail. -/
theorem witness_TransportErrorsReported :
    (let s := st .running 0 [.ok, .ok, .fail 2] [.ok ack2, .fail 1]
     exec (.write32 4 1) s = .next (after (.write32 4 1) s) ∧ (after (.write32 4 1) s).inProgress = none ∧
      (Error.transportRecv (.value 1)).isTransport = true ∧ Instr.write32 4 1 ≠ .sessionInit) ∧
    (let s := st .halted 0 [.ok, .fail 3, .ok] [.ok [0x00], .fail 1]
     exec .sessionInit s = .next (after .sessionInit s) ∧ (after .sessionInit s).inProgress = none ∧
      s.cfg.framesDistinct = true) := ⟨⟨rfl, rfl, rfl, nofun⟩, rfl, rfl, by decide⟩

theorem witness_ErrorKeepsRecord :
    (let s := st .running 0 [.fail 2] []
     exec .cpuId s = .next (after .cpuId s) ∧ (after .cpuId s).result = some (.err (.transportSend 2)) ∧
      Instr.cpuId ≠ .coreResetHalt ∧ (∀ a w, Instr.cpuId ≠ .write32 a w) ∧
      Instr.cpuId ∉ [.chipId, .devId, .flashSize]) ∧
    (let s := st .halted 0x410FC241 [.ok, .ok] [.ok (data 0x10016419), .fail 3]
     exec .flashSize s = .next (after .flashSize s) ∧
      (after .flashSize s).result = some (.err (.transportRecv (.value 3))) ∧ s.session.cpuid ≠ 0) ∧
    (let s := st .halted 0 [.ok, .fail 2] [.ok (data 0x410FC241)]
     exec .devId s = .next (after .devId s) ∧ (after .devId s).result = some (.err (.transportSend 2))) := by
  refine ⟨⟨rfl, ?_, nofun, nofun, ?_⟩, ⟨rfl, ?_, ?_⟩, rfl, ?_⟩ <;> decide

/-- A session whose MODE the transport never answers, with requests waiting. -/
def blockedWith (rs : List Request) : State := after .mode ((st .halted 0 [] []).setRequests rs)

theorem witness_BlockedHasNoStep :
    exec .mode (st .halted 0 [] []) = .next (blockedWith []) ∧ (blockedWith []).inProgress ≠ none ∧
    (blockedWith []).requests = [] ∧ (blockedWith [⟨0x08, []⟩]).requests ≠ [] := by
  refine ⟨rfl, ?_⟩
  decide

/-- The answers to nine commands of a bracketed CORE_RESET_HALT; the read-back is never answered. -/
def noReadBack : State := st .running 0 (.replicate 9 .ok)
  [.ok ack2, .ok ack8, .ok ack2, .ok ack2, .ok ack8, .ok ack2, .ok ack2, .ok ack8, .ok ack2]

theorem witness_SeqNamesBlockedStep :
    (let s := st .halted 0 [] []
     OpenReady s ∧ exec .sessionInit s = .next (after .sessionInit s) ∧ (after .sessionInit s).inProgress ≠ none ∧
      exec .coreResetHalt s = .next (after .coreResetHalt s) ∧ (after .coreResetHalt s).inProgress ≠ none) ∧
    (let s := st .halted 0 [.ok, .fail 1] [.ok [0x00]]
     OpenReady s ∧ exec .sessionInit s = .next (after .sessionInit s) ∧
      (after .sessionInit s).inProgress ≠ none) ∧
    (let s := st .running 0 [.ok, .ok] [.ok ack2, .fail 1]
     OpenReady s ∧ exec (.write32 4 1) s = .next (after (.write32 4 1) s) ∧
      (after (.write32 4 1) s).inProgress ≠ none) ∧
    OpenReady noReadBack ∧ exec .coreResetHalt noReadBack = .next (after .coreResetHalt noReadBack) ∧
      (after .coreResetHalt noReadBack).inProgress ≠ none := by
  refine ⟨⟨openReady_st .., rfl, ?_, rfl, ?_⟩, ⟨openReady_st .., rfl, ?_⟩, ⟨openReady_st .., rfl, ?_⟩,
    openReady_st .., rfl, ?_⟩ <;> decide

theorem witness_RunCacheWriters : let s := st .halted 0 [.ok] [.ok ack2]
    exec .run s = .next (after .run s) ∧ (after .run s).session.run ≠ s.session.run := by
  refine ⟨rfl, ?_⟩
  decide

theorem witness_CpuidCacheWriters : let s := st .halted 0 [.ok] [.ok (data 0x410FC241)]
    exec .cortexPartNumber s = .next (after .cortexPartNumber s) ∧
    (after .cortexPartNumber s).session.cpuid ≠ s.session.cpuid := by
  refine ⟨rfl, ?_⟩
  decide

theorem witness_OpenIsLeftOnce :
    step shut = .next (stepped shut) ∧ shut.session.isOpen = false ∧
    (let s := asked [⟨0x05, []⟩]
     step s = .next (stepped s) ∧ s.session.isOpen = true ∧ (stepped s).session.isOpen = false) ∧
    (let s := fresh [.fail 1] []
     step s = .next (stepped s) ∧ s.session.isOpen = true ∧ (stepped s).session.isOpen = false) :=
  ⟨rfl, rfl, ⟨rfl, rfl, by decide⟩, rfl, rfl, by decide⟩

theorem witness_ConfigAndVariantFixed : let s := asked [⟨0x01, []⟩]
    step s = .next (stepped s) ∧ s.requests ≠ [] := ⟨rfl, by decide⟩

theorem witness_ExecFrame : exec (.write32 4 1) running3 = .next (after (.write32 4 1) running3) ∧
    Instr.write32 4 1 ≠ .close ∧ Instr.write32 4 1 ∉ [.mode, .sessionInit, .targetVoltage, .coreId] ∧
    running3.cfg.lengthsHold = true := ⟨rfl, by decide, by decide, by decide⟩

theorem witness_ErrorsRaisedBy :
    (after .mode shut).result = some (.err .closed) ∧
    (after (.read16 1) (st .halted 0 [] [])).result = some (.err (.unalignedAccess 1)) ∧
    shut.cfg.flashTableOk = true ∧
    (let s := st .halted 0 [.ok] [.ok (.replicate 8 0)]
     exec .targetVoltage s = .next (after .targetVoltage s) ∧
      (after .targetVoltage s).result = some (.err (.measuredVoltageZero 0))) ∧
    (let s := st .halted 1 [.ok] [.ok (data 0x123)]
     exec .flashSize s = .next (after .flashSize s) ∧
      (after .flashSize s).result = some (.err (.unknownCore 0x123))) := by
  refine ⟨?_, ?_, ?_, ⟨rfl, ?_⟩, rfl, ?_⟩ <;> decide

theorem witness_ErrorLeavesSessionUsable : let s := st .halted 0 [.fail 6] []
    exec .status s = .next (after .status s) ∧
    (after .status s).result = some (.err (.transportSend 6)) := by
  refine ⟨rfl, ?_⟩
  decide

theorem witness_ErrorKeepsCompletedWrites :
    (∀ i ∈ [Instr.chipId, .devId, .flashSize], i ∈ [Instr.chipId, .devId, .flashSize]) ∧
    (data 0x410FC241).length = 8 ∧ ∀ (ss : List SendAnswer) (rs : List RecvAnswer), OpenReady (st .halted 0 ss rs) ∧
      (st .halted 0 ss rs).session.cpuid = 0 ∧ (st .halted 0 ss rs).sends = ss ∧ (st .halted 0 ss rs).recvs = rs :=
  ⟨fun _ h => h, rfl, fun _ _ => ⟨openReady_st .., rfl, rfl, rfl⟩⟩

theorem witness_OpeningCompletes :
    let s := fresh (.replicate 5 .ok) [.ok [0x00], .ok [0x01], .ok [0x81, 0x00]]
    OpenReady s ∧ s.phase = .opening ∧ AnswersAll s (initFromDfu s) :=
  ⟨openReady_fresh .., rfl, answersAll_of (by decide)⟩

theorem witness_OpeningOutcomes : let s := fresh [.ok] []
    OpenReady s ∧ s.phase = .opening ∧ step s = .next (stepped s) := ⟨openReady_fresh .., rfl, rfl⟩

/-- A session being opened on a probe that is in Debug mode already. -/
def opening : State := fresh [.ok, .ok, .ok] [.ok [0x02], .ok [0x02], .ok ack2]

theorem witness_OpenedProbeIsInDebug : opening.inProgress = none ∧ opening.phase = .opening ∧
    opening.cfg.framesDistinct = true ∧ 1 ≤ opening.cfg.respLenMode ∧ step opening = .next (stepped opening) ∧
    (stepped opening).phase = .ready ∧ ModeObeys opening.cfg .debug (newEvents opening (stepped opening)) .debug := by
  refine ⟨rfl, rfl, by decide, by decide, rfl, by decide, ?_⟩
  exact ⟨.debug, ⟨rfl, fun _ => rfl⟩, .debug, ⟨rfl, fun _ => rfl⟩, .debug, rfl, rfl⟩

/-- P1: a session being opened on a probe that is in DFU mode. -/
def openingDfu : State := fresh (.replicate 5 .ok) [.ok [0x00], .ok [0x01], .ok [0x81, 0x00]]

theorem witness_OpenedProbeIsInDebug_from_dfu : openingDfu.inProgress = none ∧ openingDfu.phase = .opening ∧
    openingDfu.cfg.framesDistinct = true ∧ 1 ≤ openingDfu.cfg.respLenMode ∧ step openingDfu = .next (stepped openingDfu) ∧
    (stepped openingDfu).phase = .ready ∧
    ModeObeys openingDfu.cfg .dfu (newEvents openingDfu (stepped openingDfu)) .debug := by
  refine ⟨rfl, rfl, by decide, by decide, rfl, by decide, ?_⟩
  exact ⟨.dfu, ⟨rfl, fun _ => rfl⟩, .mass, fun _ => nofun, .mass, ⟨rfl, fun _ => rfl⟩, .debug, rfl, .debug, rfl, rfl⟩

/-- A halted session whose transport answers one WRITE32 and then one READ32 of the word written. -/
def halted1 : State := st .halted 0 [.ok, .ok] [.ok ack8, .ok (data 0xDEADBEEF)]

/-- A target memory, and the same with 0xDEADBEEF written at 0x20000000. -/
def mem0 : Memory := ⟨[(0x20000001, 7), (0x20000004, 9)]⟩

/-- See `mem0`. -/
def mem1 : Memory := mem0.write32 0x20000000 0xDEADBEEF

/-- The state after that WRITE32. -/
def written : State := after (.write32 0x20000000 0xDEADBEEF) halted1

theorem obeys_write : TargetObeys halted1.cfg mem0 (newEvents halted1 written) mem1 :=
  ⟨mem1, ⟨by decide, fun _ => rfl⟩, rfl⟩

theorem witness_Write32TargetMemory : halted1.cfg.framesDistinct = true ∧ aligned 0x20000000 = true ∧
    exec (.write32 0x20000000 0xDEADBEEF) halted1 = .next written ∧
    TargetObeys halted1.cfg mem0 (newEvents halted1 written) mem1 ∧ written.result = some (.ok .unit) :=
  ⟨by decide, by decide, rfl, obeys_write, by decide⟩

/-- The state after that READ32. -/
def readBack : State := after (.read32 0x20000000) written

theorem obeys_read : TargetObeys halted1.cfg mem1 (newEvents written readBack) mem1 :=
  ⟨mem1, ⟨rfl, fun _ => by decide⟩, rfl⟩

theorem witness_OtherOperationsKeepTargetMemory : written.cfg.framesDistinct = true ∧
    (∀ a w, Instr.read32 0x20000000 ≠ .write32 a w) ∧ Instr.read32 0x20000000 ≠ .coreResetHalt ∧
    exec (.read32 0x20000000) written = .next readBack ∧
    TargetObeys written.cfg mem1 (newEvents written readBack) mem1 :=
  ⟨by decide, nofun, nofun, rfl, obeys_read⟩

/-- A halted session whose transport answers a whole CORE_RESET_HALT. -/
def resetting : State := st .halted 0 (.replicate 4 .ok) [.ok ack8, .ok ack8, .ok ack8, .ok (data 0x05FA0004)]

/-- `mem0` after the first of the three writes of CORE_RESET_HALT. -/
def memHalt : Memory := mem0.write32 0xE000EDF0 0xA05F0003

/-- After the second. -/
def memCatch : Memory := memHalt.write32 0xE000EDFC 0x00000001

/-- After the third. -/
def memReset : Memory := memCatch.write32 0xE000ED0C 0x05FA0004

theorem exchanges_resetting : exchanges (newEvents resetting (after .coreResetHalt resetting)) =
    [(encodeFrame cfg (.write32 0xE000EDF0 0xA05F0003), .replied ack8),
     (encodeFrame cfg (.write32 0xE000EDFC 0x00000001), .replied ack8),
     (encodeFrame cfg (.write32 0xE000ED0C 0x05FA0004), .replied ack8),
     (encodeFrame cfg (.read32 0xE000ED0C), .replied (data 0x05FA0004))] := by decide

theorem obeys_resetting :
    TargetObeys resetting.cfg mem0 (newEvents resetting (after .coreResetHalt resetting)) memReset := by
  unfold TargetObeys
  rw [exchanges_resetting]
  exact ⟨memHalt, ⟨by decide, fun _ => rfl⟩, memCatch, ⟨by decide, fun _ => rfl⟩, memReset,
    ⟨by decide, fun _ => rfl⟩, memReset, ⟨rfl, fun _ => by decide⟩, rfl⟩

theorem witness_CoreResetHaltTargetMemory : resetting.cfg.framesDistinct = true ∧
    aligned resetting.cfg.dhcsrAddr = true ∧ aligned resetting.cfg.demcrAddr = true ∧
    aligned resetting.cfg.aircrAddr = true ∧ exec .coreResetHalt resetting = .next (after .coreResetHalt resetting) ∧
    TargetObeys resetting.cfg mem0 (newEvents resetting (after .coreResetHalt resetting)) memReset ∧
    (after .coreResetHalt resetting).result = some (.ok .unit) :=
  ⟨by decide, by decide, by decide, by decide, rfl, obeys_resetting, by decide⟩

theorem witness_ReadAfterWrite : mem0.wf = true ∧ exec (.write32 0x20000000 0xDEADBEEF) halted1 = .next written ∧
    written.result = some (.ok .unit) ∧ exec (.read32 0x20000000) written = .next readBack ∧
    readBack.result = some (.ok (.word 0xDEADBEEF)) ∧
    TargetObeys halted1.cfg mem0 (newEvents halted1 written) mem1 ∧
    TargetObeys halted1.cfg mem1 (newEvents written readBack) mem1 :=
  ⟨by decide, rfl, by decide, rfl, by decide, obeys_write, obeys_read⟩

/-- W1: a halted session that reads 0x11223344 and writes it back. -/
def halted2 : State := st .halted 0 [.ok, .ok] [.ok (data 0x11223344), .ok ack8]

/-- W1's memory. -/
def mem2 : Memory := ⟨[(0x20000000, 0x44), (0x20000001, 0x33), (0x20000002, 0x22), (0x20000003, 0x11)]⟩

theorem witness_IdentityWriteIsNoOp :
    let t := after (.read32 0x20000000) halted2
    let u := after (.write32 0x20000000 0x11223344) t
    halted2.cfg.framesDistinct = true ∧ mem2.wf = true ∧ exec (.read32 0x20000000) halted2 = .next t ∧
    t.result = some (.ok (.word 0x11223344)) ∧ exec (.write32 0x20000000 0x11223344) t = .next u ∧
    u.result = some (.ok .unit) ∧ TargetObeys halted2.cfg mem2 (newEvents halted2 t) mem2 ∧
    TargetObeys halted2.cfg mem2 (newEvents t u) mem2 := by
  refine ⟨by decide, by decide, rfl, by decide, rfl, by decide, ?_, ?_⟩
  · exact ⟨mem2, ⟨rfl, fun _ => by decide⟩, rfl⟩
  · exact ⟨mem2, ⟨by decide, fun _ => by decide⟩, rfl⟩

theorem witness_SessionsIndependent : let ss := [asked [⟨0x01, []⟩], shut]
    stepSession 0 ss = .next (ss.set 0 (stepped (asked [⟨0x01, []⟩]))) ∧ ∀ s ∈ ss, s.cfg = cfg := by
  refine ⟨rfl, ?_⟩
  intro s hs
  simp only [List.mem_cons, List.not_mem_nil, or_false] at hs
  obtain rfl | rfl := hs <;> rfl

end Sys2Proof.Tests
end

section
/-! PROOF of the family 00_scope.md. The default configuration is well formed (R8), and the frame of every
operation (R13, R26, R61): `Framed` says what a piece of an operation leaves alone, `Res.Keeps` that it does so
however the transport answers; one rule per control and transport primitive, then one lemma per operation. -/

namespace Sys2Proof.Machine

section defaultConfig

/-- R227: an address made of bits [31:1] and a zero bit is even. -/
theorem isOdd_append_zero (v : BitVec 31) : isOdd (v ++ (0 : BitVec 1)) = false := by
  rw [isOdd, BitVec.getLsbD_append, if_pos (by decide)]
  rfl

/-- R227: the source's two rows stand before the OPEN ones, and no address is odd. -/
theorem default_flashTableOk : Config.default.flashTableOk = true := by
  have rows : (flashAddrOf Config.default 0x419 == some 0x1FFF7A22 &&
      flashAddrOf Config.default 0x440 == some 0x1FFFF7CC) = true := rfl
  have openEven : (Config.openFlashRows.map fun r => (r.1, r.2 ++ (0 : BitVec 1))).all
      (fun r : Code12 × Word => !isOdd r.2) = true := by
    rw [List.all_map, List.all_eq_true]
    exact fun r _ => by simp only [Function.comp_apply, isOdd_append_zero, Bool.not_false]
  have even : Config.default.flashSizeAddr.all (fun r => !isOdd r.2) = true := openEven
  rw [Config.flashTableOk, rows, even, Bool.and_self]

/-- Settles O35: only the flash-size table leans on an OPEN parameter. -/
theorem defaultConfigWellFormed : Obligations.DefaultConfigWellFormed := by
  have lengths : Config.default.lengthsHold = true := rfl
  have parts : Config.default.partNumbersDistinct = true := rfl
  have mask : Config.default.maskOk = true := rfl
  simp [Obligations.DefaultConfigWellFormed, Config.wellFormed, lengths, parts, default_flashTableOk, mask]

/-- R77: the three lengths a configuration may set. -/
theorem lengthsHold_iff (c : Config) :
    c.lengthsHold = true ↔ 1 ≤ c.respLenMode ∧ 8 ≤ c.respLenVoltage ∧ 4 ≤ c.respLenCoreId := by
  simp [Config.lengthsHold, and_assoc]

end defaultConfig

/-- What an operation leaves alone between s and t. The open flag and the transport handle stay under `held`
(CLOSE gives them up), the count of free values under `full` (a reply too short for its fields raises it). -/
structure Framed (held full : Prop) (s t : State) : Prop where
  cfg : t.cfg = s.cfg
  variant : t.session.variant = s.session.variant
  phase : t.phase = s.phase
  requests : t.requests = s.requests
  kept : held → t.session.isOpen = s.session.isOpen ∧ t.claimed = s.claimed
  trace : s.trace <+: t.trace
  sends : t.sends <:+ s.sends
  recvs : t.recvs <:+ s.recvs
  drawn_le : s.drawn ≤ t.drawn
  drawn_eq : full → t.drawn = s.drawn

/-- A piece of an operation that starts in s is framed, whichever way it comes out. -/
def Res.Keeps {α : Type} (held full : Prop) (s : State) (r : Res α) : Prop :=
  r.Sat (fun _ => Framed held full s) (fun _ => Framed held full s) (Framed held full s)

section frame

variable {held full : Prop} {s t u : State}

section updates

theorem Framed.refl (s : State) : Framed held full s s where
  cfg := rfl
  variant := rfl
  phase := rfl
  requests := rfl
  kept _ := ⟨rfl, rfl⟩
  trace := List.prefix_rfl
  sends := List.suffix_rfl
  recvs := List.suffix_rfl
  drawn_le := Nat.le_refl _
  drawn_eq _ := rfl

theorem Framed.trans (h : Framed held full s t) (g : Framed held full t u) : Framed held full s u where
  cfg := g.cfg.trans h.cfg
  variant := g.variant.trans h.variant
  phase := g.phase.trans h.phase
  requests := g.requests.trans h.requests
  kept k := ⟨(g.kept k).1.trans (h.kept k).1, (g.kept k).2.trans (h.kept k).2⟩
  trace := h.trace.trans g.trace
  sends := g.sends.trans h.sends
  recvs := g.recvs.trans h.recvs
  drawn_le := Nat.le_trans h.drawn_le g.drawn_le
  drawn_eq e := (g.drawn_eq e).trans (h.drawn_eq e)

theorem Framed.setSeq (s : State) (k : Nat) : Framed held full s (s.setSeq k) :=
  { Framed.refl s with }

theorem Framed.setRun (s : State) (r : RunState) : Framed held full s (s.setRun r) :=
  { Framed.refl s with }

theorem Framed.setCpuid (s : State) (v : Word) : Framed held full s (s.setCpuid v) :=
  { Framed.refl s with }

theorem Framed.setResult (s : State) (r : Option Result) : Framed held full s (s.setResult r) :=
  { Framed.refl s with }

theorem Framed.setInProgress (s : State) (i : Option Instr) : Framed held full s (s.setInProgress i) :=
  { Framed.refl s with }

theorem Framed.log (s : State) (e : Event) : Framed held full s (s.log e) :=
  { Framed.refl s with trace := List.prefix_append _ _ }

theorem Framed.setSends {a : SendAnswer} {rest : List SendAnswer} (h : s.sends = a :: rest) :
    Framed held full s (s.setSends rest) :=
  { Framed.refl s with sends := h ▸ List.suffix_cons a rest }

theorem Framed.setRecvs {a : RecvAnswer} {rest : List RecvAnswer} (h : s.recvs = a :: rest) :
    Framed held full s (s.setRecvs rest) :=
  { Framed.refl s with recvs := h ▸ List.suffix_cons a rest }

/-- Reading n bytes of fields from a reply of l bytes draws the bytes it does not hold (log entry 11). -/
theorem Framed.draw {n l : Nat} (h : full → n ≤ l) : Framed held full s (s.setDrawn (s.drawn + (n - l))) :=
  { Framed.refl (held := held) (full := full) s with
    drawn_le := Nat.le_add_right _ _
    drawn_eq := fun e => by simp [Nat.sub_eq_zero_of_le (h e)] }

/-- R137: giving up the handle touches nothing but the open flag, the handle and the port log. -/
theorem Framed.closeTransport (h : ¬ held) : Framed held full s (closeTransport s) :=
  { Framed.log (held := held) (full := full) s .close with kept := fun k => absurd k h }

theorem Framed.begin (s : State) : Framed held full s (begin s) :=
  (Framed.setResult s none).trans (.setSeq _ 1)

end updates

section control

variable {α β : Type} {r : Res α}

theorem Res.Keeps.ok (v : α) (h : Framed held full s t) : (Res.ok v t).Keeps held full s := h

theorem Res.Keeps.err (e : Error) (h : Framed held full s t) :
    (Res.err e t : Res α).Keeps held full s := h

/-- A piece that starts after framed updates of s is framed from s on. -/
theorem Res.Keeps.after (h : Framed held full s t) (hr : r.Keeps held full t) : r.Keeps held full s :=
  hr.mono (fun _ _ => h.trans) (fun _ _ => h.trans) (fun _ => h.trans)

theorem Res.Keeps.bind {k : α → State → Res β} (hr : r.Keeps held full s)
    (hk : ∀ v t, Framed held full s t → (k v t).Keeps held full t) : (r.bind k).Keeps held full s :=
  Res.Sat.bind hr fun v t h => (hk v t h).after h

theorem Res.Keeps.attempt (hr : r.Keeps held full s) : r.attempt.Keeps held full s :=
  Res.Sat.attempt hr

theorem Res.Keeps.value {f : α → Value} (hr : r.Keeps held full s) : (r.value f).Keeps held full s :=
  Res.Sat.value hr

theorem Res.Keeps.ite {c : Prop} [Decidable c] {r' : Res α} (hr : r.Keeps held full s)
    (hr' : r'.Keeps held full s) : (if c then r else r').Keeps held full s := by
  split
  · exact hr
  · exact hr'

theorem raiseIf_keeps (e : Option Error) (s : State) : (raiseIf e s).Keeps held full s := by
  cases e with
  | none => exact .ok _ (.refl s)
  | some e => exact .err e (.refl s)

/-- R100: past the prologue an operation goes on in the state it started in. -/
theorem prologue_bind_keeps {k : Unit → State → Res α} (hk : (k () s).Keeps held full s) :
    ((prologue s).bind k).Keeps held full s := by
  rcases prologue_cases s with ⟨_, e⟩ | ⟨_, e⟩ <;> rw [e]
  · exact hk
  · exact .err _ (.refl s)

end control

section transport

theorem send_keeps (f : Frame) (s : State) : (send f s).Keeps held full s := by
  rcases send_cases f s with ⟨rest, h, e⟩ | ⟨x, rest, h, e⟩ | ⟨_, e⟩ <;> rw [e]
  · exact .ok _ ((Framed.setSends h).trans (.log _ _))
  · exact .err _ ((Framed.setSends h).trans (.log _ _))
  · exact Framed.log s _

theorem recv_keeps (n : Nat) (s : State) : (recv n s).Keeps held full s := by
  rcases recv_cases n s with ⟨b, rest, h, _, e⟩ | ⟨b, rest, h, _, e⟩ | ⟨x, rest, h, e⟩ | ⟨_, e⟩ <;> rw [e]
  · exact .ok _ ((Framed.setRecvs h).trans (.log _ _))
  · exact .err _ ((Framed.setRecvs h).trans (.log _ _))
  · exact .err _ ((Framed.setRecvs h).trans (.log _ _))
  · exact Framed.log s _

theorem command_keeps (op : FrameOp) (n : Nat) (s : State) : (command op n s).Keeps held full s :=
  (send_keeps _ s).bind fun _ t _ => .ite (.ok _ (.refl t)) (recv_keeps n t)

/-- R268: a reply that is delivered has the length asked for. -/
theorem length_of_answers {n : Nat} {b : List Byte} (h : Answers s n b) : b.length = n := by
  obtain ⟨_, hr⟩ := h
  split at hr
  · next hn => simp [hr, hn]
  · exact hr.2

/-- A command of a configured reply length n, whose operation reads m bytes of fields from the reply. -/
theorem command_fields_keeps {α : Type} {op : FrameOp} {n m : Nat} {k : List Byte → State → Res α}
    (hm : full → m ≤ n) (hk : ∀ b t, (k b t).Keeps held full t) :
    ((command op n s).bind fun b t => (fields m b t).bind k).Keeps held full s := by
  have hc := command_keeps (held := held) (full := full) op n s
  cases e : command op n s with
  | ok b t =>
    rw [e] at hc
    have hb : b.length = n := length_of_answers (transact_ok e).1
    have hd : Framed held full t (t.setDrawn (t.drawn + (m - b.length))) := .draw fun x => hb ▸ hm x
    exact (hk _ _).after (Framed.trans hc hd)
  | err x t => rw [e] at hc; exact hc
  | blocked t => rw [e] at hc; exact hc

theorem ackCommand_keeps (op : FrameOp) (n : Nat) (r : RunState) (s : State) :
    (ackCommand op n r s).Keeps held full s :=
  prologue_bind_keeps ((command_keeps op n s).bind fun _ t _ => .ok _ (.setRun t r))

end transport

section operations

theorem opMode_keeps (h : full → 1 ≤ s.cfg.respLenMode) : (opMode s).Keeps held full s :=
  prologue_bind_keeps (command_fields_keeps h fun _ t => .ok _ (.refl t))

theorem opExitDfu_keeps (s : State) : (opExitDfu s).Keeps held full s :=
  prologue_bind_keeps (send_keeps _ s)

theorem opEnterSwd_keeps (s : State) : (opEnterSwd s).Keeps held full s :=
  prologue_bind_keeps ((command_keeps _ _ s).bind fun _ t _ => .ok _ (.refl t))

theorem opStatus_keeps (s : State) : (opStatus s).Keeps held full s :=
  prologue_bind_keeps ((command_keeps _ _ s).bind fun _ t _ => .ok _ (.setRun t _))

/-- Both MODEs read under the configuration of the start, which no step before them writes. -/
theorem opSessionInit_keeps (h : full → 1 ≤ s.cfg.respLenMode) : (opSessionInit s).Keeps held full s := by
  refine prologue_bind_keeps (.bind (.after (.setSeq s 1) (opMode_keeps h)) fun m1 s1 h1 => ?_)
  refine .bind (.ite (.after (.setSeq s1 2) (opExitDfu_keeps _).attempt) (.ok _ (.setSeq s1 2))) fun _ s2 h2 => ?_
  have hcfg : s2.cfg = s.cfg := h2.cfg.trans h1.cfg
  refine .bind (.after (.setSeq s2 3) (opMode_keeps fun x => hcfg ▸ h x)) fun m2 s3 _ => ?_
  refine .bind (.ite (.ok _ (.setSeq s3 4)) (.after (.setSeq s3 4) (opEnterSwd_keeps _))) fun _ s4 _ => ?_
  exact .bind (.after (.setSeq s4 5) (opStatus_keeps _)) fun _ s5 _ => .ok _ (.setSeq s5 0)

/-- R137: CLOSE is the one operation that gives up the open flag and the handle. -/
theorem opClose_keeps (h : ¬ held) (s : State) : (opClose s).Keeps held full s := by
  unfold opClose
  split
  · exact .ok _ (.closeTransport h)
  · exact .ok _ (.refl s)

theorem opVersion_keeps (s : State) : (opVersion s).Keeps held full s :=
  prologue_bind_keeps ((command_keeps _ _ s).bind fun _ t _ => .ok _ (.refl t))

theorem opTargetVoltage_keeps (h : full → 8 ≤ s.cfg.respLenVoltage) : (opTargetVoltage s).Keeps held full s :=
  prologue_bind_keeps (command_fields_keeps h fun _ t => .ite (.err _ (.refl t)) (.ok _ (.refl t)))

theorem opCoreId_keeps (h : full → 4 ≤ s.cfg.respLenCoreId) : (opCoreId s).Keeps held full s :=
  prologue_bind_keeps (command_fields_keeps h fun _ t => .ok _ (.refl t))

theorem opRead32_keeps (a : Word) (s : State) : (opRead32 a s).Keeps held full s :=
  prologue_bind_keeps ((command_keeps _ _ s).bind fun _ t _ => .ok _ (.refl t))

/-- The three steps of the bracket are framed each, caught errors included. -/
theorem opWrite32_keeps (a w : Word) (s : State) : (opWrite32 a w s).Keeps held full s := by
  refine prologue_bind_keeps (.bind (.ite ?halt (.ok _ (.refl s))) fun herr s1 _ =>
    .bind (.ite ?write (.ok _ (.refl s1))) fun werr s2 _ =>
    .bind (.ite ?resume (.ok _ (.refl s2))) fun rerr s3 _ => ?raise)
  case halt => exact .after (.setSeq s 1) (ackCommand_keeps ..).attempt
  case write => exact .after (.setSeq s1 2) (command_keeps ..).attempt
  case resume => exact .after (.setSeq s2 3) (ackCommand_keeps ..).attempt
  case raise => exact .after (.setSeq s3 0) (raiseIf_keeps _ _)

theorem opCpuId_keeps (s : State) : (opCpuId s).Keeps held full s :=
  prologue_bind_keeps (.bind (.after (.setSeq s 1) (opRead32_keeps _ _)) fun v t _ => .ok _ (.setCpuid t v))

theorem opRead16_keeps (a : Word) (s : State) : (opRead16 a s).Keeps held full s :=
  prologue_bind_keeps (.ite (.err _ (.refl s))
    (.bind (.after (.setSeq s 1) (opRead32_keeps _ _)) fun _ t _ => .ok _ (.refl t)))

theorem resetWrite_keeps (s : State) : (resetWrite s).Keeps held full s :=
  (opWrite32_keeps _ _ s).attempt.bind fun e t _ => .after (.setRun t .unknown) (raiseIf_keeps e _)

theorem opCoreResetHalt_keeps (s : State) : (opCoreResetHalt s).Keeps held full s :=
  prologue_bind_keeps (.bind (.after (.setSeq s 1) (opWrite32_keeps ..)) fun _ s1 _ =>
    .bind (.after (.setSeq s1 2) (opWrite32_keeps ..)) fun _ s2 _ =>
    .bind (.after (.setSeq s2 3) (resetWrite_keeps _)) fun _ s3 _ =>
    .bind (.after (.setSeq s3 4) (opRead32_keeps ..)) fun _ s4 _ => .ok _ (.setSeq s4 0))

theorem opCortexPartNumber_keeps (s : State) : (opCortexPartNumber s).Keeps held full s :=
  prologue_bind_keeps (.bind (.ite (.after (.setSeq s 1) (opCpuId_keeps _)) (.ok _ (.refl s)))
    fun _ t _ => .ok _ (.refl t))

theorem opChipId_keeps (s : State) : (opChipId s).Keeps held full s :=
  prologue_bind_keeps (.bind (.after (.setSeq s 1) (opCortexPartNumber_keeps _))
    fun _ t _ => .after (.setSeq t 2) (opRead32_keeps ..))

theorem opDevId_keeps (s : State) : (opDevId s).Keeps held full s :=
  prologue_bind_keeps (.bind (.after (.setSeq s 1) (opChipId_keeps _)) fun _ t _ => .ok _ (.refl t))

theorem opFlashSize_keeps (s : State) : (opFlashSize s).Keeps held full s := by
  refine prologue_bind_keeps (.bind (.after (.setSeq s 1) (opDevId_keeps _)) fun f t _ => ?_)
  cases flashAddrOf t.cfg f with
  | none => exact .err _ (.refl t)
  | some a => exact .after (.setSeq t 2) (opRead16_keeps a _)

theorem opClockSpeed_keeps (s : State) : (opClockSpeed s).Keeps held full s :=
  prologue_bind_keeps (.err _ (.refl s))

end operations

section endOfOperation

/-- R272: the end of an operation writes the result port, S.seq and the operation in progress. -/
theorem finish_framed (i : Instr) {r : Res Value} (h : r.Keeps held full s) :
    Framed held full s (finish i r) := by
  cases r with
  | ok v t => exact Framed.trans h ((Framed.setResult t _).trans (.setSeq _ 0))
  | err e t => exact Framed.trans h ((Framed.setResult t _).trans (.setSeq _ 0))
  | blocked t => exact Framed.trans h (.setInProgress t _)

theorem perform_framed {i : Instr} {body : State → Res Value} (hbody : (body (begin s)).Keeps held full (begin s))
    (h : perform i body s = .next t) : Framed held full s t := by
  obtain ⟨_, rfl⟩ := perform_next h
  exact finish_framed i (hbody.after (.begin s))

end endOfOperation

end frame

/-- The piece of an operation that `exec` performs between taking the request and delivering the outcome. -/
def opBody : Instr → State → Res Value
  | .mode, s => (opMode s).value .mode
  | .exitDfu, s => (opExitDfu s).value fun _ => .unit
  | .enterSwd, s => (opEnterSwd s).value fun _ => .unit
  | .sessionInit, s => (opSessionInit s).value fun _ => .unit
  | .close, s => (opClose s).value fun _ => .unit
  | .version, s => (opVersion s).value .version
  | .targetVoltage, s => (opTargetVoltage s).value .voltage
  | .status, s => (opStatus s).value .runState
  | .halt, s => (opHalt s).value fun _ => .unit
  | .step, s => (opStep s).value fun _ => .unit
  | .run, s => (opRun s).value fun _ => .unit
  | .reset, s => (opReset s).value fun _ => .unit
  | .hardReset, s => (opHardReset s).value fun _ => .unit
  | .forceDebug, s => (opForceDebug s).value fun _ => .unit
  | .coreId, s => (opCoreId s).value .word
  | .read32 a, s => (opRead32 a s).value .word
  | .write32 a w, s => (opWrite32 a w s).value fun _ => .unit
  | .read16 a, s => (opRead16 a s).value .half
  | .cpuId, s => (opCpuId s).value .word
  | .coreResetHalt, s => (opCoreResetHalt s).value fun _ => .unit
  | .cortexPartNumber, s => (opCortexPartNumber s).value .coreType
  | .chipId, s => (opChipId s).value .word
  | .devId, s => (opDevId s).value .family
  | .familyGroup f, s => (opFamilyGroup f s).value .group
  | .flashSize, s => (opFlashSize s).value .half
  | .clockSpeed, s => (opClockSpeed s).value fun _ => .unit

/-- Every operation is its body, performed (R28). -/
theorem exec_eq_perform (i : Instr) (s : State) : exec i s = perform i (opBody i) s := by
  cases i <;> rfl

/-- R77: the operations that read fields from a reply of a configured length. -/
def readsConfiguredLength : List Instr := [.mode, .sessionInit, .targetVoltage, .coreId]

/-- CLOSE alone gives up the handle, and the count of free values moves in four operations only, under a
length too short for their fields (log entry 11). -/
theorem opBody_keeps (i : Instr) (s : State) :
    (opBody i s).Keeps (i ≠ .close) (i ∉ readsConfiguredLength ∨ s.cfg.lengthsHold = true) s := by
  have lengths (hi : i ∈ readsConfiguredLength) (hx : i ∉ readsConfiguredLength ∨ s.cfg.lengthsHold = true) :
      1 ≤ s.cfg.respLenMode ∧ 8 ≤ s.cfg.respLenVoltage ∧ 4 ≤ s.cfg.respLenCoreId :=
    (lengthsHold_iff s.cfg).mp (hx.resolve_left (not_not_intro hi))
  cases i with
  | mode => exact (opMode_keeps fun x => (lengths (by decide) x).1).value
  | exitDfu => exact (opExitDfu_keeps s).value
  | enterSwd => exact (opEnterSwd_keeps s).value
  | sessionInit => exact (opSessionInit_keeps fun x => (lengths (by decide) x).1).value
  | close => exact (opClose_keeps (not_not_intro rfl) s).value
  | version => exact (opVersion_keeps s).value
  | targetVoltage => exact (opTargetVoltage_keeps fun x => (lengths (by decide) x).2.1).value
  | status => exact (opStatus_keeps s).value
  | halt => exact (ackCommand_keeps ..).value
  | step => exact (ackCommand_keeps ..).value
  | run => exact (ackCommand_keeps ..).value
  | reset => exact (ackCommand_keeps ..).value
  | hardReset => exact (ackCommand_keeps ..).value
  | forceDebug => exact (ackCommand_keeps ..).value
  | coreId => exact (opCoreId_keeps fun x => (lengths (by decide) x).2.2).value
  | read32 a => exact (opRead32_keeps a s).value
  | write32 a w => exact (opWrite32_keeps a w s).value
  | read16 a => exact (opRead16_keeps a s).value
  | cpuId => exact (opCpuId_keeps s).value
  | coreResetHalt => exact (opCoreResetHalt_keeps s).value
  | cortexPartNumber => exact (opCortexPartNumber_keeps s).value
  | chipId => exact (opChipId_keeps s).value
  | devId => exact (opDevId_keeps s).value
  | familyGroup f => exact Res.Keeps.ok _ (.refl s)
  | flashSize => exact (opFlashSize_keeps s).value
  | clockSpeed => exact (opClockSpeed_keeps s).value

theorem exec_framed {i : Instr} {s t : State} (h : exec i s = .next t) :
    Framed (i ≠ .close) (i ∉ readsConfiguredLength ∨ s.cfg.lengthsHold = true) s t := by
  rw [exec_eq_perform] at h
  exact perform_framed (opBody_keeps i (begin s)) h

/-- Settles O48: the fields of the frame, the port log and the answers each with the part between. -/
theorem execFrame : Obligations.ExecFrame := by
  intro i s t h
  have hf := exec_framed h
  obtain ⟨evs, hevs⟩ := hf.trace
  obtain ⟨sent, hsent⟩ := hf.sends
  obtain ⟨received, hreceived⟩ := hf.recvs
  exact ⟨hf.cfg, hf.variant, hf.phase, hf.requests, hf.kept, ⟨evs, hevs.symm⟩, ⟨sent, hsent.symm⟩,
    ⟨received, hreceived.symm⟩, hf.drawn_le, hf.drawn_eq⟩

end Sys2Proof.Machine
end

section
/-! PROOF of the family 10_state.md. `Transacted` says once what a `Transact` does to a state, `Stable` what a predicate
needs to hold on through an operation, with one lemma per operation; the writers of the caches (R22, R23) and the
invariant of a session follow from it. `Since` follows the frames offered, for the step S.seq names (R25). -/

namespace Sys2Proof.Machine

section port

theorem framesOf_append (l m : List Event) : framesOf (l ++ m) = framesOf l ++ framesOf m := by
  induction l with
  | nil => rfl
  | cons e l ih => cases e <;> simp [framesOf, ih]

/-- R61: an answered Send may stand before any ordered use of the port. -/
theorem portOrdered_send_cons {ep : Endpoint} {f : Frame} (a : SendAnswer) {l : List Event}
    (h : portOrdered l = true) : portOrdered (.send ep f (some a) :: l) = true := by
  cases l with
  | nil => cases a <;> rfl
  | cons e l =>
    cases e with
    | send ep' g b => cases a <;> exact h
    | recv ep' n b => simp [portOrdered] at h
    | close => cases a <;> exact h

/-- R61: the port may be used on, in order, as long as every use so far was answered. -/
theorem portOrdered_append {l m : List Event} (hl : portOrdered l = true) (ha : allAnswered l = true)
    (hm : portOrdered m = true) : portOrdered (l ++ m) = true := by
  induction l using portOrdered.induct with
  | case1 => exact hm
  | case2 ep f ep' n a rest ih =>
    simp only [portOrdered, Bool.and_eq_true] at hl
    simp only [allAnswered, List.all_cons, Bool.and_eq_true, Event.isAnswered] at ha
    simp [portOrdered, ha.2.1, ih hl.2 ha.2.2]
  | case3 ep f a rest hne ih =>
    have hrest : portOrdered rest = true := by
      cases a <;> simpa [portOrdered] using hl
    simp only [allAnswered, List.all_cons, Bool.and_eq_true] at ha
    exact portOrdered_send_cons a (ih hrest ha.2)
  | case4 => simp [allAnswered, Event.isAnswered] at ha
  | case5 => simp [portOrdered] at hl
  | case6 => simp [allAnswered, Event.isAnswered] at ha

/-- The port events of one `Transact` of the frame f: a Send, and after an answered one at most a Recv (R13). -/
def TransactEvents (s : State) (f : Frame) (evs : List Event) : Prop :=
  (∃ a, evs = [.send (outEp s.cfg s.session.variant) f a]) ∨
    ∃ n a, evs = [.send (outEp s.cfg s.session.variant) f (some .ok), .recv s.cfg.inEp n a]

/-- What a `Transact` of the frame f does to a state: it uses the port, whose every use is answered under
`answered`, and leaves the record and the rest as they were. -/
structure Transacted (f : Frame) (answered : Prop) (s t : State) : Prop where
  session : t.session = s.session
  cfg : t.cfg = s.cfg
  phase : t.phase = s.phase
  claimed : t.claimed = s.claimed
  inProgress : t.inProgress = s.inProgress
  result : t.result = s.result
  events : ∃ evs, TransactEvents s f evs ∧ (answered → allAnswered evs = true) ∧ t.trace = s.trace ++ evs

variable {s : State} {f : Frame} {evs : List Event} {answered : Prop}

theorem TransactEvents.framesOf_eq (h : TransactEvents s f evs) : framesOf evs = [f] := by
  obtain ⟨a, rfl⟩ | ⟨n, a, rfl⟩ := h <;> rfl

theorem TransactEvents.ordered (h : TransactEvents s f evs) : portOrdered evs = true := by
  obtain ⟨a, rfl⟩ | ⟨n, a, rfl⟩ := h
  · rcases a with _ | _ | _ <;> rfl
  · simp [portOrdered]

theorem TransactEvents.wellFormed (h : TransactEvents s f evs) (hf : f.length = Config.frameLen) :
    evs.all (Event.wellFormed s.cfg s.session.variant) = true := by
  obtain ⟨a, rfl⟩ | ⟨n, a, rfl⟩ := h <;> simp [Event.wellFormed, hf]

theorem Transacted.sent (l : List SendAnswer) {a : Option SendAnswer} (h : answered → a.isSome = true) :
    Transacted f answered s ((s.setSends l).log (.send (outEp s.cfg s.session.variant) f a)) :=
  ⟨rfl, rfl, rfl, rfl, rfl, rfl, _, .inl ⟨a, rfl⟩, fun k => by simp [allAnswered, Event.isAnswered, h k], rfl⟩

theorem Transacted.received (l : List SendAnswer) (l' : List RecvAnswer) (n : Nat) {a : Option RecvAnswer}
    (h : answered → a.isSome = true) :
    Transacted f answered s ((((s.setSends l).log (.send (outEp s.cfg s.session.variant) f (some .ok))).setRecvs l').log
      (.recv s.cfg.inEp n a)) :=
  ⟨rfl, rfl, rfl, rfl, rfl, rfl, _, .inr ⟨n, a, rfl⟩, fun k => by simp [allAnswered, Event.isAnswered, h k],
    List.append_assoc ..⟩

/-- R13, R300: a `Transact` that ends, with a reply or an error, had every use of the port answered. -/
theorem transact_transacted (f : Frame) (n : Nat) (s : State) : (transact f n s).Sat
    (fun _ => Transacted f True s) (fun _ => Transacted f True s) (Transacted f False s) := by
  unfold transact
  rcases send_cases f s with ⟨l, _, e⟩ | ⟨x, l, _, e⟩ | ⟨_, e⟩ <;> rw [e]
  · rw [Res.bind_ok]
    split
    · exact Transacted.sent l fun _ => rfl
    · rcases recv_cases n ((s.setSends l).log (.send (outEp s.cfg s.session.variant) f (some .ok))) with
        ⟨b, l', _, _, e⟩ | ⟨b, l', _, _, e⟩ | ⟨x, l', _, e⟩ | ⟨_, e⟩ <;> rw [e]
      · exact Transacted.received l l' n fun _ => rfl
      · exact Transacted.received l l' n fun _ => rfl
      · exact Transacted.received l l' n fun _ => rfl
      · exact Transacted.received l s.recvs n False.elim
  · exact Transacted.sent l fun _ => rfl
  · exact Transacted.sent s.sends False.elim

end port

section stable

/-- The writes an argument about an operation admits: of S.run, of S.cpuid, and the closing of the transport. -/
structure Writes where
  run : Prop
  cpuid : Prop
  close : Prop

/-- I holds on in the middle of an operation that writes no more than w admits, and B where it blocks. -/
structure Stable (w : Writes) (I B : State → Prop) : Prop where
  transacted : ∀ {op s t}, I s → Transacted (encodeFrame s.cfg op) True s t → I t
  stopped : ∀ {op s t}, I s → Transacted (encodeFrame s.cfg op) False s t → B t
  setSeq : ∀ {s} k, k ≤ 5 → I s → I (s.setSeq k)
  setDrawn : ∀ {s} k, I s → I (s.setDrawn k)
  setRun : w.run → ∀ {s} r, I s → I (s.setRun r)
  setCpuid : w.cpuid → ∀ {s} v, I s → I (s.setCpuid v)
  closeTransport : w.close → ∀ {s}, I s → I (closeTransport s)

/-- I holds where a piece of an operation ends, B where it blocks. -/
def Res.Within {α : Type} (I B : State → Prop) (r : Res α) : Prop := r.Sat (fun _ => I) (fun _ => I) B

/-- I held before the last write of S.run. -/
def RunWritten (I : State → Prop) (t : State) : Prop := ∃ u r, I u ∧ t = u.setRun r

variable {α β : Type} {w : Writes} {I B : State → Prop} {s : State} {r : Res α}

section control

theorem Res.Within.ok (v : α) (h : I s) : (Res.ok v s).Within I B := h

theorem Res.Within.err (e : Error) (h : I s) : (Res.err e s : Res α).Within I B := h

theorem Res.Within.bind {k : α → State → Res β} (hr : r.Within I B) (hk : ∀ v t, I t → (k v t).Within I B) :
    (r.bind k).Within I B := Res.Sat.bind hr hk

theorem Res.Within.attempt (hr : r.Within I B) : r.attempt.Within I B := Res.Sat.attempt hr

theorem Res.Within.value {f : α → Value} (hr : r.Within I B) : (r.value f).Within I B := Res.Sat.value hr

theorem Res.Within.ite {c : Prop} [Decidable c] {r' : Res α} (hr : c → r.Within I B) (hr' : r'.Within I B) :
    (if c then r else r').Within I B := by
  split
  · next h => exact hr h
  · exact hr'

theorem raiseIf_within (e : Option Error) (hs : I s) : (raiseIf e s).Within I B := by
  cases e with
  | none => exact .ok _ hs
  | some e => exact .err e hs

/-- R100: an operation goes on past the prologue in the state it started in, or ends there. -/
theorem prologue_bind_sat {P : α → State → Prop} {k : Unit → State → Res α} (hs : I s)
    (hk : (k () s).Sat P (fun _ => I) B) : ((prologue s).bind k).Sat P (fun _ => I) B := by
  rcases prologue_cases s with ⟨_, e⟩ | ⟨_, e⟩ <;> rw [e]
  · exact hk
  · exact hs

theorem prologue_bind_within {k : Unit → State → Res α} (hs : I s) (hk : (k () s).Within I B) :
    ((prologue s).bind k).Within I B := prologue_bind_sat hs hk

end control

section operations

namespace Stable

variable (h : Stable w I B) (hs : I s)
include h

/-- With S.run admitted, its last write counts as any other. -/
theorem within_of_runWritten (hw : w.run) (hr : r.Sat (fun _ => RunWritten I) (fun _ => I) B) : r.Within I B := by
  refine hr.mono (fun _ t ht => ?_) (fun _ _ => id) (fun _ => id)
  obtain ⟨u, x, hu, rfl⟩ := ht
  exact h.setRun hw x hu

include hs

theorem transact_within (op : FrameOp) (n : Nat) : (transact (encodeFrame s.cfg op) n s).Within I B :=
  (transact_transacted ..).mono (fun _ _ => h.transacted hs) (fun _ _ => h.transacted hs) (fun _ => h.stopped hs)

theorem command_within (op : FrameOp) (n : Nat) : (command op n s).Within I B := h.transact_within hs op n

theorem fields_within (n : Nat) (b : List Byte) : (fields n b s).Within I B := h.setDrawn _ hs

/-- R102, R168: the cache is written last, after the ack. -/
theorem ackCommand_sat (op : FrameOp) (n : Nat) (x : RunState) :
    (ackCommand op n x s).Sat (fun _ => RunWritten I) (fun _ => I) B :=
  prologue_bind_sat hs (.bind (h.command_within hs op n) fun _ t ht => ⟨t, x, ht, rfl⟩)

theorem ackCommand_within (hw : w.run) (op : FrameOp) (n : Nat) (x : RunState) : (ackCommand op n x s).Within I B :=
  h.within_of_runWritten hw (h.ackCommand_sat hs op n x)

/-- R160, R168: the cache is written last, from the reply. -/
theorem opStatus_sat : (opStatus s).Sat (fun _ => RunWritten I) (fun _ => I) B :=
  prologue_bind_sat hs (.bind (h.command_within hs ..) fun _ t ht => ⟨t, _, ht, rfl⟩)

theorem opMode_within : (opMode s).Within I B :=
  prologue_bind_within hs (.bind (h.command_within hs ..) fun _ _ ht =>
    .bind (h.fields_within ht ..) fun _ _ hu => .ok _ hu)

theorem opExitDfu_within : (opExitDfu s).Within I B := by
  refine prologue_bind_within hs ?_
  rw [send_eq_transact]
  exact .bind (h.transact_within hs ..) fun _ _ ht => .ok _ ht

theorem opEnterSwd_within : (opEnterSwd s).Within I B :=
  prologue_bind_within hs (.bind (h.command_within hs ..) fun _ _ ht => .ok _ ht)

/-- R135: S.run is written by the last step alone. -/
theorem opSessionInit_sat : (opSessionInit s).Sat (fun _ => RunWritten I) (fun _ => I) B := by
  refine prologue_bind_sat hs (.bind (h.opMode_within (h.setSeq 1 (by decide) hs)) fun m1 s1 h1 => ?_)
  refine .bind (Res.Within.ite (fun _ => ?_) (.ok _ (h.setSeq 2 (by decide) h1))) fun _ s2 h2 => ?_
  · exact (h.opExitDfu_within (h.setSeq 2 (by decide) h1)).attempt
  refine .bind (h.opMode_within (h.setSeq 3 (by decide) h2)) fun m2 s3 h3 => ?_
  refine .bind (Res.Within.ite (fun _ => .ok _ (h.setSeq 4 (by decide) h3)) ?_) fun _ s4 h4 => ?_
  · exact h.opEnterSwd_within (h.setSeq 4 (by decide) h3)
  refine .bind (h.opStatus_sat (h.setSeq 5 (by decide) h4)) fun _ s5 h5 => ?_
  obtain ⟨u, x, hu, rfl⟩ := h5
  exact ⟨u.setSeq 0, x, h.setSeq 0 (by decide) hu, rfl⟩

theorem opClose_within (hw : w.close) : (opClose s).Within I B := by
  unfold opClose
  split
  · exact .ok _ (h.closeTransport hw hs)
  · exact .ok _ hs

theorem opVersion_within : (opVersion s).Within I B :=
  prologue_bind_within hs (.bind (h.command_within hs ..) fun _ _ ht => .ok _ ht)

theorem opTargetVoltage_within : (opTargetVoltage s).Within I B :=
  prologue_bind_within hs (.bind (h.command_within hs ..) fun _ _ ht =>
    .bind (h.fields_within ht ..) fun _ _ hu => .ite (fun _ => .err _ hu) (.ok _ hu))

theorem opCoreId_within : (opCoreId s).Within I B :=
  prologue_bind_within hs (.bind (h.command_within hs ..) fun _ _ ht =>
    .bind (h.fields_within ht ..) fun _ _ hu => .ok _ hu)

theorem opRead32_within (a : Word) : (opRead32 a s).Within I B :=
  prologue_bind_within hs (.bind (h.command_within hs ..) fun _ _ ht => .ok _ ht)

/-- R173: HALT and RUN of the bracket write S.run. -/
theorem opWrite32_within (hw : w.run) (a x : Word) : (opWrite32 a x s).Within I B := by
  refine prologue_bind_within hs (.bind (.ite (fun _ => ?halt) (.ok _ hs)) fun _ s1 h1 =>
    .bind (.ite (fun _ => ?write) (.ok _ h1)) fun _ s2 h2 =>
    .bind (.ite (fun _ => ?resume) (.ok _ h2)) fun _ s3 h3 => ?raise)
  case halt => exact (h.ackCommand_within (h.setSeq 1 (by decide) hs) hw ..).attempt
  case write => exact (h.command_within (h.setSeq 2 (by decide) h1) ..).attempt
  case resume => exact (h.ackCommand_within (h.setSeq 3 (by decide) h2) hw ..).attempt
  case raise => exact raiseIf_within _ (h.setSeq 0 (by decide) h3)

theorem opCpuId_within (hw : w.cpuid) : (opCpuId s).Within I B :=
  prologue_bind_within hs (.bind (h.opRead32_within (h.setSeq 1 (by decide) hs) _) fun v _ ht =>
    .ok _ (h.setCpuid hw v ht))

theorem opRead16_within (a : Word) : (opRead16 a s).Within I B :=
  prologue_bind_within hs (.ite (fun _ => .err _ hs)
    (.bind (h.opRead32_within (h.setSeq 1 (by decide) hs) _) fun _ _ ht => .ok _ ht))

theorem resetWrite_within (hw : w.run) : (resetWrite s).Within I B :=
  .bind (h.opWrite32_within hs hw ..).attempt fun e _ ht => raiseIf_within e (h.setRun hw _ ht)

theorem opCoreResetHalt_within (hw : w.run) : (opCoreResetHalt s).Within I B :=
  prologue_bind_within hs (.bind (h.opWrite32_within (h.setSeq 1 (by decide) hs) hw ..) fun _ _ h1 =>
    .bind (h.opWrite32_within (h.setSeq 2 (by decide) h1) hw ..) fun _ _ h2 =>
    .bind (h.resetWrite_within (h.setSeq 3 (by decide) h2) hw) fun _ _ h3 =>
    .bind (h.opRead32_within (h.setSeq 4 (by decide) h3) _) fun _ _ h4 => .ok _ (h.setSeq 0 (by decide) h4))

/-- R220: the CPUID register is read only while the cache is 0. -/
theorem opCortexPartNumber_within (hw : s.session.cpuid = 0 → w.cpuid) : (opCortexPartNumber s).Within I B :=
  prologue_bind_within hs (.bind
    (.ite (fun hc => h.opCpuId_within (h.setSeq 1 (by decide) hs) (hw hc)) (.ok _ hs)) fun _ _ ht => .ok _ ht)

theorem opChipId_within (hw : s.session.cpuid = 0 → w.cpuid) : (opChipId s).Within I B :=
  prologue_bind_within hs (.bind (h.opCortexPartNumber_within (h.setSeq 1 (by decide) hs) hw)
    fun _ _ ht => h.opRead32_within (h.setSeq 2 (by decide) ht) _)

theorem opDevId_within (hw : s.session.cpuid = 0 → w.cpuid) : (opDevId s).Within I B :=
  prologue_bind_within hs (.bind (h.opChipId_within (h.setSeq 1 (by decide) hs) hw) fun _ _ ht => .ok _ ht)

theorem opFlashSize_within (hw : s.session.cpuid = 0 → w.cpuid) : (opFlashSize s).Within I B := by
  refine prologue_bind_within hs (.bind (h.opDevId_within (h.setSeq 1 (by decide) hs) hw) fun f t ht => ?_)
  cases flashAddrOf t.cfg f with
  | none => exact .err _ ht
  | some a => exact h.opRead16_within (h.setSeq 2 (by decide) ht) a

end Stable

theorem opClockSpeed_within (hs : I s) : (opClockSpeed s).Within I B := prologue_bind_within hs (.err _ hs)

/-- R22, R168: the operations that write S.run and those that call them. -/
def writesRun (i : Instr) : Prop :=
  i ∈ [.status, .halt, .step, .run, .reset, .hardReset, .forceDebug, .coreResetHalt, .sessionInit] ∨
    ∃ a w, i = .write32 a w

/-- R23, R33: the operations that write S.cpuid in a state: CPU_ID, and while the cache is 0 those that call it. -/
def writesCpuid (i : Instr) (s : State) : Prop :=
  i = .cpuId ∨ s.session.cpuid = 0 ∧ i ∈ [.cortexPartNumber, .chipId, .devId, .flashSize]

/-- What an operation writes: S.run and S.cpuid as R22 and R23 say, and CLOSE alone closes the transport. -/
theorem Stable.opBody_within (h : Stable w I B) (hs : I s) (i : Instr) (hrun : writesRun i → w.run)
    (hcpuid : writesCpuid i s → w.cpuid) (hclose : i = .close → w.close) : (opBody i s).Within I B := by
  have run (hi : i ∈ [Instr.status, .halt, .step, .run, .reset, .hardReset, .forceDebug, .coreResetHalt,
    .sessionInit]) : w.run := hrun (.inl hi)
  have cpuid (hi : i ∈ [Instr.cortexPartNumber, .chipId, .devId, .flashSize]) (h0 : s.session.cpuid = 0) :
    w.cpuid := hcpuid (.inr ⟨h0, hi⟩)
  cases i with
  | mode => exact (h.opMode_within hs).value
  | exitDfu => exact (h.opExitDfu_within hs).value
  | enterSwd => exact (h.opEnterSwd_within hs).value
  | sessionInit => exact (h.within_of_runWritten (run (by decide)) (h.opSessionInit_sat hs)).value
  | close => exact (h.opClose_within hs (hclose rfl)).value
  | version => exact (h.opVersion_within hs).value
  | targetVoltage => exact (h.opTargetVoltage_within hs).value
  | status => exact (h.within_of_runWritten (run (by decide)) (h.opStatus_sat hs)).value
  | halt => exact (h.ackCommand_within hs (run (by decide)) ..).value
  | step => exact (h.ackCommand_within hs (run (by decide)) ..).value
  | run => exact (h.ackCommand_within hs (run (by decide)) ..).value
  | reset => exact (h.ackCommand_within hs (run (by decide)) ..).value
  | hardReset => exact (h.ackCommand_within hs (run (by decide)) ..).value
  | forceDebug => exact (h.ackCommand_within hs (run (by decide)) ..).value
  | coreId => exact (h.opCoreId_within hs).value
  | read32 a => exact (h.opRead32_within hs a).value
  | write32 a x => exact (h.opWrite32_within hs (hrun (.inr ⟨a, x, rfl⟩)) a x).value
  | read16 a => exact (h.opRead16_within hs a).value
  | cpuId => exact (h.opCpuId_within hs (hcpuid (.inl rfl))).value
  | coreResetHalt => exact (h.opCoreResetHalt_within hs (run (by decide))).value
  | cortexPartNumber => exact (h.opCortexPartNumber_within hs (cpuid (by decide))).value
  | chipId => exact (h.opChipId_within hs (cpuid (by decide))).value
  | devId => exact (h.opDevId_within hs (cpuid (by decide))).value
  | familyGroup f => exact Res.Within.ok _ hs
  | flashSize => exact (h.opFlashSize_within hs (cpuid (by decide))).value
  | clockSpeed => exact (opClockSpeed_within hs).value

end operations

end stable

section execution

variable {i : Instr} {s t : State}

/-- Every operation that may run takes the request, runs its body and ends or blocks. -/
theorem exec_next (h : exec i s = .next t) : s.inProgress = none ∧ t = finish i (opBody i (begin s)) := by
  rw [exec_eq_perform] at h
  exact perform_next h

/-- The end of an operation: what holds of the state an ended or blocked one leaves holds of the outcome. -/
theorem Res.Within.finish {I B P : State → Prop} {r : Res Value} (hr : r.Within I B)
    (hend : ∀ u x, I u → P ((u.setResult x).setSeq 0)) (hblock : ∀ u, B u → P (u.setInProgress (some i))) :
    P (finish i r) := by
  cases r with
  | ok v u => exact hend u _ hr
  | err e u => exact hend u _ hr
  | blocked u => exact hblock u hr

/-- Everything a step can do: open the session (R290), wait (R291), serve the next request (R28). -/
theorem step_next (h : step s = .next t) : s.inProgress = none ∧
    ((s.phase = .opening ∧ t = finishOpening (opSessionInit (begin s))) ∨
      (s.phase ≠ .opening ∧ s.requests = [] ∧ t = s) ∨
      (s.phase ≠ .opening ∧ ∃ r rest i, s.requests = r :: rest ∧ decodeRequest r = .ok i ∧
        exec i (s.setRequests rest) = .next t)) := by
  unfold step at h
  split at h
  · unfold stuck at h
    split at h <;> cases h
  next hidle =>
  refine ⟨by simpa using hidle, ?_⟩
  split at h
  · next hp => exact .inl ⟨hp, by cases h; rfl⟩
  next hp =>
  unfold serve at h
  split at h
  · next hr => exact .inr (.inl ⟨hp, hr, by cases h; rfl⟩)
  next r rest hr =>
  split at h
  · cases h
  · next i hi => exact .inr (.inr ⟨hp, r, rest, i, hr, hi, h⟩)

/-- Settles O7: the two branches of `serve` that R28 and R291 speak of. -/
theorem stepRunsRequest : Obligations.StepRunsRequest := by
  intro s hidle hphase
  refine ⟨fun hreq => ?_, fun r rest i hreq hdec => ?_⟩
  · simp [step, hidle, hphase, serve, hreq]
  · simp [step, hidle, hphase, serve, hreq, hdec]

/-- Settles O8: the record as R42 has it, and nothing on the ports. -/
theorem resetState : Obligations.ResetState := by
  refine ⟨rfl, rfl, rfl, rfl, rfl, ?_⟩
  exact {
    seqIdle := fun _ => rfl
    seqBound := Nat.zero_le 5
    blockedNoResult := fun h => absurd rfl h
    claimedIffOpen := rfl
    discardedClosed := nofun
    openingAsCreated := fun _ => ⟨rfl, rfl, rfl⟩
    ordered := rfl
    idleAnswered := fun _ _ => rfl
    frames := rfl }

/-- R290, R136: the opening writes neither, whether it ends, aborts or blocks. -/
theorem finishOpening_cfg_variant {held full : Prop} {r : Res Unit} (h : r.Keeps held full s) :
    (finishOpening r).cfg = s.cfg ∧ (finishOpening r).session.variant = s.session.variant := by
  cases r with
  | ok _ u => exact have hu : Framed held full s u := h; ⟨hu.cfg, hu.variant⟩
  | err _ u => exact have hu : Framed held full s u := h; ⟨hu.cfg, hu.variant⟩
  | blocked u => exact have hu : Framed held full s u := h; ⟨hu.cfg, hu.variant⟩

/-- Settles O47: the frame of SESSION_INIT at the opening, that of every operation afterwards. -/
theorem configAndVariantFixed : Obligations.ConfigAndVariantFixed := by
  intro s t h
  obtain ⟨_, ⟨_, rfl⟩ | ⟨_, _, rfl⟩ | ⟨_, r, rest, i, _, _, he⟩⟩ := step_next h
  · exact finishOpening_cfg_variant (s := begin s) (opSessionInit_keeps (held := True) (full := False) False.elim)
  · exact ⟨rfl, rfl⟩
  · exact ⟨(exec_framed he).cfg, (exec_framed he).variant⟩

end execution

section caches

variable {p q : Prop}

theorem stable_run_eq (x : RunState) :
    Stable ⟨False, p, q⟩ (fun u => u.session.run = x) (fun u => u.session.run = x) where
  transacted h ht := ht.session ▸ h
  stopped h ht := ht.session ▸ h
  setSeq _ _ h := h
  setDrawn _ h := h
  setRun := False.elim
  setCpuid _ _ _ h := h
  closeTransport _ _ h := h

theorem stable_cpuid_eq (v : Word) :
    Stable ⟨p, False, q⟩ (fun u => u.session.cpuid = v) (fun u => u.session.cpuid = v) where
  transacted h ht := ht.session ▸ h
  stopped h ht := ht.session ▸ h
  setSeq _ _ h := h
  setDrawn _ h := h
  setRun _ _ _ h := h
  setCpuid := False.elim
  closeTransport _ _ h := h

/-- Settles O44: an operation that does not write S.run keeps every value it may hold. -/
theorem runCacheWriters : Obligations.RunCacheWriters := by
  intro i s t he hrun
  by_contra hi
  obtain ⟨_, rfl⟩ := exec_next he
  have hbody := (stable_run_eq s.session.run (p := True) (q := True)).opBody_within (s := begin s) rfl i
    hi (fun _ => trivial) (fun _ => trivial)
  exact hrun (hbody.finish (P := fun u => u.session.run = s.session.run) (fun _ _ => id) (fun _ => id))

/-- Settles O45: an operation that does not write S.cpuid in this state keeps every value it may hold. -/
theorem cpuidCacheWriters : Obligations.CpuidCacheWriters := by
  intro i s t he hcpuid
  by_contra hi
  obtain ⟨_, rfl⟩ := exec_next he
  have hbody := (stable_cpuid_eq s.session.cpuid (p := True) (q := True)).opBody_within (s := begin s) rfl i
    (fun _ => trivial) hi (fun _ => trivial)
  exact hcpuid (hbody.finish (P := fun u => u.session.cpuid = s.session.cpuid) (fun _ _ => id) (fun _ => id))

end caches

section invariant

variable {p q : Phase} {answered : Prop} {s t u : State}

/-- An open session in the middle of an operation, in phase p: what SessionInv says there. The last use of the
port is answered but where the operation blocks. -/
structure Live (p : Phase) (answered : Prop) (s : State) : Prop where
  phase : s.phase = p
  isOpen : s.session.isOpen = true
  claimed : s.claimed = true
  idle : s.inProgress = none
  noResult : s.result = none
  seqBound : s.session.seq ≤ 5
  ordered : portOrdered s.trace = true
  answered : answered → allAnswered s.trace = true
  frames : framesWellFormed s = true

/-- R61, R71, R76: a `Transact` uses the port in order, with a whole frame and the session's endpoints. -/
theorem Live.transacted (h : Live p True s) {op : FrameOp} (ht : Transacted (encodeFrame s.cfg op) answered s t) :
    Live p answered t := by
  obtain ⟨evs, hevs, hans, htrace⟩ := ht.events
  exact {
    phase := ht.phase ▸ h.phase
    isOpen := ht.session ▸ h.isOpen
    claimed := ht.claimed ▸ h.claimed
    idle := ht.inProgress ▸ h.idle
    noResult := ht.result ▸ h.noResult
    seqBound := ht.session ▸ h.seqBound
    ordered := htrace ▸ portOrdered_append h.ordered (h.answered trivial) hevs.ordered
    answered := fun k => by
      rw [htrace, allAnswered, List.all_append, Bool.and_eq_true]
      exact ⟨h.answered trivial, hans k⟩
    frames := by
      rw [framesWellFormed, htrace, ht.cfg, ht.session, List.all_append, Bool.and_eq_true]
      exact ⟨h.frames, hevs.wellFormed (length_encodeFrame ..)⟩ }

theorem Live.setRun (h : Live p answered s) (x : RunState) : Live p answered (s.setRun x) := { h with }

/-- Every write of an operation but the closing of the transport keeps a session live. -/
theorem stable_live (p : Phase) {a b : Prop} : Stable ⟨a, b, False⟩ (Live p True) (Live p False) where
  transacted h ht := h.transacted ht
  stopped h ht := h.transacted ht
  setSeq _ hk h := { h with seqBound := hk }
  setDrawn _ h := { h with }
  setRun _ _ x h := h.setRun x
  setCpuid _ _ _ h := { h with }
  closeTransport := False.elim

theorem Stable.and {w : Writes} {I B J C : State → Prop} (h : Stable w I B) (g : Stable w J C) :
    Stable w (fun u => I u ∧ J u) (fun u => B u ∧ C u) where
  transacted hu ht := ⟨h.transacted hu.1 ht, g.transacted hu.2 ht⟩
  stopped hu ht := ⟨h.stopped hu.1 ht, g.stopped hu.2 ht⟩
  setSeq k hk hu := ⟨h.setSeq k hk hu.1, g.setSeq k hk hu.2⟩
  setDrawn k hu := ⟨h.setDrawn k hu.1, g.setDrawn k hu.2⟩
  setRun hw _ x hu := ⟨h.setRun hw x hu.1, g.setRun hw x hu.2⟩
  setCpuid hw _ v hu := ⟨h.setCpuid hw v hu.1, g.setCpuid hw v hu.2⟩
  closeTransport hw _ hu := ⟨h.closeTransport hw hu.1, g.closeTransport hw hu.2⟩

/-- An operation that may run on an open session starts live. -/
theorem SessionInv.live (h : SessionInv s) (hidle : s.inProgress = none) (ho : s.session.isOpen = true) :
    Live s.phase True (begin s) where
  phase := rfl
  isOpen := ho
  claimed := h.claimedIffOpen.trans ho
  idle := hidle
  noResult := rfl
  seqBound := show 1 ≤ 5 by decide
  ordered := h.ordered
  answered _ := h.idleAnswered hidle ho
  frames := h.frames

/-- R25, R28: an operation that ended has its result, and S.seq is 0 again. -/
theorem Live.ended_inv (h : Live .ready True u) (x : Option Result) : SessionInv ((u.setResult x).setSeq 0) where
  seqIdle _ := rfl
  seqBound := Nat.zero_le 5
  blockedNoResult hb := absurd h.idle hb
  claimedIffOpen := h.claimed.trans h.isOpen.symm
  discardedClosed hd := by cases h.phase.symm.trans hd
  openingAsCreated ho := by cases h.phase.symm.trans ho
  ordered := h.ordered
  idleAnswered _ _ := h.answered trivial
  frames := h.frames

/-- R136, R137: where the transport is closed, its close is the last use of the port. -/
theorem Live.closed_inv (h : Live p True u) (hq : q ≠ .opening) (x : Option Result) :
    SessionInv ((((closeTransport u).setResult x).setSeq 0).setPhase q) where
  seqIdle _ := rfl
  seqBound := Nat.zero_le 5
  blockedNoResult hb := absurd h.idle hb
  claimedIffOpen := rfl
  discardedClosed _ := rfl
  openingAsCreated ho := absurd ho hq
  ordered := portOrdered_append h.ordered (h.answered trivial) rfl
  idleAnswered _ hopen := nomatch hopen
  frames := by
    have hframes : (u.trace ++ [Event.close]).all (Event.wellFormed u.cfg u.session.variant) = true := by
      rw [List.all_append, Bool.and_eq_true]
      exact ⟨h.frames, rfl⟩
    exact hframes

/-- R300, R305: a blocked operation stays in progress with no result. -/
theorem Live.blocked_inv (h : Live p False u) (hp : p ≠ .discarded)
    (hc : p = .opening → u.session.run = .unknown ∧ u.session.cpuid = 0) (i : Instr) :
    SessionInv (u.setInProgress (some i)) where
  seqIdle hn := nomatch hn
  seqBound := h.seqBound
  blockedNoResult _ := h.noResult
  claimedIffOpen := h.claimed.trans h.isOpen.symm
  discardedClosed hd := absurd (h.phase.symm.trans hd) hp
  openingAsCreated ho := ⟨h.isOpen, hc (h.phase.symm.trans ho)⟩
  ordered := h.ordered
  idleAnswered hn := nomatch hn
  frames := h.frames

/-- R100, R223, R137: on a closed session an operation ends at once, in the state it started in. -/
theorem opBody_closed (h : s.session.isOpen = false) (i : Instr) :
    opBody i s = .err .closed s ∨ ∃ v, opBody i s = .ok v s := by
  have atPrologue {α : Type} {k : Unit → State → Res α} {f : α → Value} :
      ((prologue s).bind k).value f = .err .closed s := by simp [h]
  cases i with
  | close => exact .inr ⟨.unit, by simp [opBody, opClose, h]⟩
  | familyGroup f => exact .inr ⟨_, rfl⟩
  | _ => exact .inl atPrologue

/-- R137: CLOSE of an open session closes the transport. -/
theorem opClose_of_open (h : s.session.isOpen = true) : opClose s = .ok () (closeTransport s) := by
  simp [opClose, h]

/-- An operation that ends in the state it started in. -/
theorem SessionInv.ended (h : SessionInv s) (hidle : s.inProgress = none) (x : Option Result) :
    SessionInv (((begin s).setResult x).setSeq 0) where
  seqIdle _ := rfl
  seqBound := Nat.zero_le 5
  blockedNoResult hb := absurd hidle hb
  claimedIffOpen := h.claimedIffOpen
  discardedClosed := h.discardedClosed
  openingAsCreated := h.openingAsCreated
  ordered := h.ordered
  idleAnswered := h.idleAnswered
  frames := h.frames

theorem SessionInv.setRequests (h : SessionInv s) (l : List Request) : SessionInv (s.setRequests l) := { h with }

/-- Every operation keeps the invariant once the opening is over. -/
theorem exec_keeps_sessionInv {i : Instr} (h : SessionInv s) (hp : s.phase ≠ .opening) (he : exec i s = .next t) :
    SessionInv t := by
  obtain ⟨hidle, rfl⟩ := exec_next he
  cases ho : s.session.isOpen with
  | false =>
    obtain e | ⟨v, e⟩ := opBody_closed (s := begin s) ho i
    · rw [e]
      exact h.ended hidle _
    · rw [e]
      exact h.ended hidle _
  | true =>
    have hready : s.phase = .ready := by
      cases hph : s.phase with
      | opening => exact absurd hph hp
      | ready => rfl
      | discarded => simp [h.discardedClosed hph] at ho
    have hlive : Live .ready True (begin s) := hready ▸ h.live hidle ho
    by_cases hi : i = .close
    · subst hi
      have hbody : opBody .close (begin s) = .ok .unit (closeTransport (begin s)) := by
        simp [opBody, opClose_of_open (s := begin s) ho]
      rw [hbody]
      exact hlive.closed_inv hp _
    · have hbody := (stable_live .ready (a := True) (b := True)).opBody_within hlive i
        (fun _ => trivial) (fun _ => trivial) hi
      exact hbody.finish (fun _ x hu => hu.ended_inv x) fun _ hu => hu.blocked_inv nofun nofun i

/-- The opening keeps the invariant: SESSION_INIT writes S.run last, so that where it blocks the record is still
as created (R290), and where it aborts the transport is closed (R136). -/
theorem opening_keeps_sessionInv (h : SessionInv s) (hidle : s.inProgress = none) (hp : s.phase = .opening) :
    SessionInv (finishOpening (opSessionInit (begin s))) := by
  obtain ⟨ho, hrun, hcpuid⟩ := h.openingAsCreated hp
  have hlive : Live .opening True (begin s) := hp ▸ h.live hidle ho
  have hinit := ((stable_live .opening).and ((stable_run_eq .unknown).and (stable_cpuid_eq 0))).opSessionInit_sat
    ⟨hlive, hrun, hcpuid⟩
  cases e : opSessionInit (begin s) with
  | ok _ u =>
    rw [e] at hinit
    obtain ⟨v, x, ⟨hv, _⟩, rfl⟩ := hinit
    have hready : Live .ready True ((v.setRun x).setPhase .ready) := { hv.setRun x with phase := rfl }
    exact hready.ended_inv _
  | err _ u =>
    rw [e] at hinit
    obtain ⟨hu, _⟩ := hinit
    exact hu.closed_inv (q := .discarded) nofun _
  | blocked u =>
    rw [e] at hinit
    obtain ⟨hu, hcreated⟩ := hinit
    exact hu.blocked_inv nofun (fun _ => hcreated) _

/-- Settles O9: the opening, a waiting step, and a step that serves a request. -/
theorem stepKeepsSessionInv : Obligations.StepKeepsSessionInv := by
  intro s t h hstep
  obtain ⟨hidle, ⟨hp, rfl⟩ | ⟨_, _, rfl⟩ | ⟨hp, r, rest, i, _, _, he⟩⟩ := step_next hstep
  · exact opening_keeps_sessionInv h hidle hp
  · exact h
  · exact exec_keeps_sessionInv (h.setRequests rest) hp he

end invariant

section sequencer

variable {α : Type} {s0 s t : State} {fs : List Frame} {op : FrameOp} {k : Nat} {B : State → Prop} {r : Res α}

theorem stable_idle {w : Writes} :
    Stable w (fun u => u.inProgress = none) (fun u => u.inProgress = none) where
  transacted h ht := ht.inProgress.trans h
  stopped h ht := ht.inProgress.trans h
  setSeq _ _ h := h
  setDrawn _ h := h
  setRun _ _ _ h := h
  setCpuid _ _ _ h := h
  closeTransport _ _ h := h

/-- R300, R305: an operation in progress after its step is one whose body blocked. -/
theorem exec_blocked {i : Instr} (he : exec i s = .next t) (ht : t.inProgress ≠ none) :
    ∃ u, opBody i (begin s) = .blocked u ∧ t = u.setInProgress (some i) := by
  obtain ⟨hidle, rfl⟩ := exec_next he
  have hbody := (stable_idle (w := ⟨True, True, True⟩)).opBody_within (s := begin s) hidle i
    (fun _ => trivial) (fun _ => trivial) (fun _ => trivial)
  cases e : opBody i (begin s) with
  | ok v u =>
    rw [e] at hbody ht
    exact absurd hbody ht
  | err x u =>
    rw [e] at hbody ht
    exact absurd hbody ht
  | blocked u => exact ⟨u, rfl, rfl⟩

theorem value_eq_blocked {f : α → Value} {u : State} (h : r.value f = .blocked u) : r = .blocked u := by
  cases r with
  | ok v t => cases h
  | err e t => cases h
  | blocked t => cases h; rfl

/-- An open session of s0's configuration, which has offered the frames fs since s0. -/
structure Since (s0 : State) (fs : List Frame) (t : State) : Prop where
  cfg : t.cfg = s0.cfg
  isOpen : t.session.isOpen = true
  frames : ∃ evs, t.trace = s0.trace ++ evs ∧ framesOf evs = fs

/-- Whatever frames it has offered since s0. -/
def Along (s0 t : State) : Prop := ∃ fs, Since s0 fs t

/-- S.seq is k, and the last frame offered since s0 is that of op. -/
def StoppedAt (s0 : State) (k : Nat) (op : FrameOp) (t : State) : Prop :=
  t.session.seq = k ∧ (newFrames s0 t).getLast? = some (encodeFrame s0.cfg op)

section since

theorem Since.newFrames_eq (h : Since s0 fs t) : newFrames s0 t = fs := by
  obtain ⟨evs, htrace, hfs⟩ := h.frames
  rw [newFrames, newEvents, htrace, List.drop_left, hfs]

theorem Since.stoppedAt (h : Since s0 (fs ++ [encodeFrame s0.cfg op]) t) (hk : t.session.seq = k) :
    StoppedAt s0 k op t :=
  ⟨hk, by rw [h.newFrames_eq, List.getLast?_concat]⟩

theorem Since.transacted {answered : Prop} (h : Since s0 fs s)
    (ht : Transacted (encodeFrame s.cfg op) answered s t) : Since s0 (fs ++ [encodeFrame s0.cfg op]) t := by
  obtain ⟨before, htrace, hfs⟩ := h.frames
  obtain ⟨evs, hevs, _, hlog⟩ := ht.events
  refine ⟨ht.cfg.trans h.cfg, ht.session ▸ h.isOpen, before ++ evs, ?_, ?_⟩
  · rw [hlog, htrace, List.append_assoc]
  · rw [framesOf_append, hfs, hevs.framesOf_eq, h.cfg]

theorem Since.setSeq (h : Since s0 fs s) (k : Nat) : Since s0 fs (s.setSeq k) := { h with }

theorem Since.setDrawn (h : Since s0 fs s) (k : Nat) : Since s0 fs (s.setDrawn k) := { h with }

theorem Along.cfg (h : Along s0 s) : s.cfg = s0.cfg := h.elim fun _ h => h.cfg

theorem Along.setSeq (h : Along s0 s) (k : Nat) : Along s0 (s.setSeq k) := h.imp fun _ h => h.setSeq k

theorem Along.setRun (h : Along s0 s) (x : RunState) : Along s0 (s.setRun x) := h.imp fun _ h => { h with }

theorem since_begin (h : s.session.isOpen = true) : Since s [] (begin s) :=
  ⟨rfl, h, [], (List.append_nil _).symm, rfl⟩

end since

section oneFrame

/-- R13: a piece of an operation that offers the frame of op after fs, and no other, and whose S.seq is k where it
blocks. -/
def Res.Offers (s0 : State) (fs : List Frame) (op : FrameOp) (k : Nat) (r : Res α) : Prop :=
  r.Sat (fun _ => Since s0 (fs ++ [encodeFrame s0.cfg op])) (fun _ => Since s0 (fs ++ [encodeFrame s0.cfg op]))
    fun t => Since s0 (fs ++ [encodeFrame s0.cfg op]) t ∧ t.session.seq = k

theorem Res.Offers.within (hr : r.Offers s0 fs op k) (hB : ∀ t, StoppedAt s0 k op t → B t) :
    r.Within (Along s0) B :=
  hr.mono (fun _ _ h => ⟨_, h⟩) (fun _ _ h => ⟨_, h⟩) fun t ⟨h, hk⟩ => hB t (h.stoppedAt hk)

theorem transact_offers (h : Since s0 fs s) (op : FrameOp) (n : Nat) :
    (transact (encodeFrame s.cfg op) n s).Offers s0 fs op s.session.seq :=
  (transact_transacted ..).mono (fun _ _ => h.transacted) (fun _ _ => h.transacted)
    fun _ ht => ⟨h.transacted ht, by rw [ht.session]⟩

theorem command_offers (h : Since s0 fs s) (op : FrameOp) (n : Nat) :
    (command op n s).Offers s0 fs op s.session.seq := transact_offers h op n

theorem prologue_bind_offers {k' : Unit → State → Res α} (h : Since s0 fs s) (hk : (k' () s).Offers s0 fs op k) :
    ((prologue s).bind k').Offers s0 fs op k := by
  rw [prologue_of_open h.isOpen]
  exact hk

theorem opMode_offers (h : Since s0 fs s) : (opMode s).Offers s0 fs .mode s.session.seq :=
  prologue_bind_offers h (.bind (command_offers h ..) fun _ _ ht => ht.setDrawn _)

theorem opExitDfu_offers (h : Since s0 fs s) : (opExitDfu s).Offers s0 fs .exitDfu s.session.seq := by
  refine prologue_bind_offers h ?_
  rw [send_eq_transact]
  exact .bind (transact_offers h ..) fun _ _ ht => ht

theorem opEnterSwd_offers (h : Since s0 fs s) : (opEnterSwd s).Offers s0 fs .enterSwd s.session.seq :=
  prologue_bind_offers h (.bind (command_offers h ..) fun _ _ ht => ht)

theorem opStatus_offers (h : Since s0 fs s) : (opStatus s).Offers s0 fs .status s.session.seq :=
  prologue_bind_offers h (.bind (command_offers h ..) fun _ _ ht => { ht with })

theorem opRead32_offers (h : Since s0 fs s) (a : Word) : (opRead32 a s).Offers s0 fs (.read32 a) s.session.seq :=
  prologue_bind_offers h (.bind (command_offers h ..) fun _ _ ht => ht)

theorem ackCommand_offers (h : Since s0 fs s) (op : FrameOp) (n : Nat) (x : RunState) :
    (ackCommand op n x s).Offers s0 fs op s.session.seq :=
  prologue_bind_offers h (.bind (command_offers h ..) fun _ _ ht => { ht with })

end oneFrame

section composites

/-- R135, R25: where SESSION_INIT stops. -/
def SessionInitStop (s0 t : State) : Prop :=
  (StoppedAt s0 1 .mode t ∧ (newFrames s0 t).length = 1) ∨ StoppedAt s0 2 .exitDfu t ∨
    (StoppedAt s0 3 .mode t ∧ 2 ≤ (newFrames s0 t).length) ∨ StoppedAt s0 4 .enterSwd t ∨ StoppedAt s0 5 .status t

/-- R173, R25: where WRITE32 stops. -/
def Write32Stop (s0 : State) (a x : Word) (t : State) : Prop :=
  StoppedAt s0 1 .stepCore t ∨ StoppedAt s0 2 (.write32 a x) t ∨ StoppedAt s0 3 .run t

/-- R179, R25: where CORE_RESET_HALT stops; inside one of its writes, as that WRITE32 does (log entry 13). -/
def CoreResetHaltStop (s0 t : State) : Prop :=
  StoppedAt s0 1 .stepCore t ∨ StoppedAt s0 2 (.write32 s0.cfg.dhcsrAddr s0.cfg.dhcsrHaltWord) t ∨
    StoppedAt s0 2 (.write32 s0.cfg.demcrAddr s0.cfg.demcrHaltAfterResetWord) t ∨
    StoppedAt s0 2 (.write32 s0.cfg.aircrAddr s0.cfg.aircrResetWord) t ∨ StoppedAt s0 3 .run t ∨
    StoppedAt s0 4 (.read32 s0.cfg.aircrAddr) t

/-- The first MODE is the first frame; the second comes after it, with EXIT_DFU between or not. -/
theorem opSessionInit_stops (h : Since s0 [] s) : (opSessionInit s).Within (Along s0) (SessionInitStop s0) := by
  refine prologue_bind_within ⟨_, h⟩ (Res.Sat.bind ((opMode_offers (h.setSeq 1)).mono (fun _ _ => id)
    (fun _ _ ht => ⟨_, ht⟩) fun t ⟨ht, hk⟩ => ?first) fun m1 s1 h1 => ?_)
  case first => exact .inl ⟨ht.stoppedAt hk, by rw [ht.newFrames_eq]; rfl⟩
  refine Res.Sat.bind (Q := fun _ u => ∃ gs, gs ≠ [] ∧ Since s0 gs u) ?exitDfu fun _ s2 ⟨gs, hgs, h2⟩ => ?_
  case exitDfu =>
    split
    · exact Res.Sat.attempt ((opExitDfu_offers (h1.setSeq 2)).mono (fun _ _ ht => ⟨_, by simp, ht⟩)
        (fun _ _ ht => ⟨_, by simp, ht⟩) fun t ⟨ht, hk⟩ => .inr (.inl (ht.stoppedAt hk)))
    · exact ⟨_, by simp, h1.setSeq 2⟩
  refine Res.Sat.bind ((opMode_offers (h2.setSeq 3)).mono (fun _ _ => id) (fun _ _ ht => ⟨_, ht⟩)
    fun t ⟨ht, hk⟩ => ?second) fun m2 s3 h3 => ?_
  case second =>
    have hlen : 2 ≤ (newFrames s0 t).length := by
      have := List.length_pos_of_ne_nil hgs
      rw [ht.newFrames_eq, List.length_append, List.length_singleton]
      omega
    exact .inr (.inr (.inl ⟨ht.stoppedAt hk, hlen⟩))
  refine Res.Within.bind (I := Along s0) (.ite (fun _ => .ok _ ⟨_, h3.setSeq 4⟩) ?enterSwd)
    fun _ s4 ⟨_, h4⟩ => ?_
  case enterSwd =>
    exact (opEnterSwd_offers (h3.setSeq 4)).within fun t ht => .inr (.inr (.inr (.inl ht)))
  refine Res.Within.bind ((opStatus_offers (h4.setSeq 5)).within fun t ht => ?_) fun _ s5 h5 => .ok _ (h5.setSeq 0)
  exact .inr (.inr (.inr (.inr ht)))

theorem opWrite32_stops (h : Along s0 s) (a x : Word) : (opWrite32 a x s).Within (Along s0) (Write32Stop s0 a x) := by
  refine prologue_bind_within h (.bind (.ite (fun _ => ?halt) (.ok _ h)) fun _ s1 ⟨fs1, h1⟩ =>
    .bind (.ite (fun _ => ?write) (.ok _ ⟨fs1, h1⟩)) fun _ s2 ⟨fs2, h2⟩ =>
    .bind (.ite (fun _ => ?resume) (.ok _ ⟨fs2, h2⟩)) fun _ s3 h3 => ?raise)
  case halt =>
    obtain ⟨fs, h⟩ := h
    exact ((ackCommand_offers (h.setSeq 1) ..).within fun t ht => .inl ht).attempt
  case write => exact ((command_offers (h1.setSeq 2) ..).within fun t ht => .inr (.inl ht)).attempt
  case resume => exact ((ackCommand_offers (h2.setSeq 3) ..).within fun t ht => .inr (.inr ht)).attempt
  case raise => exact raiseIf_within _ (h3.setSeq 0)

/-- A write of CORE_RESET_HALT stops as its WRITE32 does; only the address and the word differ. -/
theorem opWrite32_within_of_stops {a x : Word} (h : Along s0 s) (halt : ∀ t, StoppedAt s0 1 .stepCore t → B t)
    (write : ∀ t, StoppedAt s0 2 (.write32 a x) t → B t) (resume : ∀ t, StoppedAt s0 3 .run t → B t) :
    (opWrite32 a x s).Within (Along s0) B := by
  refine (opWrite32_stops h a x).mono (fun _ _ => id) (fun _ _ => id) fun t ht => ?_
  obtain ht | ht | ht := ht
  · exact halt t ht
  · exact write t ht
  · exact resume t ht

theorem opCoreResetHalt_stops (h : Along s0 s) :
    (opCoreResetHalt s).Within (Along s0) (CoreResetHaltStop s0) := by
  have halt (t) (ht : StoppedAt s0 1 .stepCore t) : CoreResetHaltStop s0 t := .inl ht
  have resume (t) (ht : StoppedAt s0 3 .run t) : CoreResetHaltStop s0 t := .inr (.inr (.inr (.inr (.inl ht))))
  refine prologue_bind_within h (.bind (opWrite32_within_of_stops (h.setSeq 1) halt (fun t ht => ?dhcsr) resume)
    fun _ s1 h1 => .bind (opWrite32_within_of_stops (h1.setSeq 2) halt (fun t ht => ?demcr) resume)
    fun _ s2 h2 => .bind (.bind (opWrite32_within_of_stops (h2.setSeq 3) halt (fun t ht => ?aircr) resume).attempt
      fun e u hu => raiseIf_within e (hu.setRun _))
    fun _ s3 ⟨fs3, h3⟩ => .bind ((opRead32_offers (h3.setSeq 4) _).within fun t ht => ?readBack)
    fun _ s4 h4 => .ok _ (h4.setSeq 0))
  case dhcsr => exact .inr (.inl (h.cfg ▸ ht))
  case demcr => exact .inr (.inr (.inl (h1.cfg ▸ ht)))
  case aircr => exact .inr (.inr (.inr (.inl (h2.cfg ▸ ht))))
  case readBack => exact .inr (.inr (.inr (.inr (.inr (h3.cfg ▸ ht)))))

/-- Settles O43: where the body of each composite operation blocks. -/
theorem seqNamesBlockedStep : Obligations.SeqNamesBlockedStep := by
  intro i s t hopen he ht
  obtain ⟨u, hblocked, rfl⟩ := exec_blocked he ht
  have hbegin : Since s [] (begin s) := since_begin hopen.2
  refine ⟨?_, fun a x => ?_, ?_⟩
  · rintro rfl
    have h := opSessionInit_stops hbegin
    rw [value_eq_blocked hblocked] at h
    exact h
  · rintro rfl
    have h := opWrite32_stops ⟨_, hbegin⟩ a x
    rw [value_eq_blocked hblocked] at h
    exact h
  · rintro rfl
    have h := opCoreResetHalt_stops ⟨_, hbegin⟩
    rw [value_eq_blocked hblocked] at h
    exact h

end composites

end sequencer

end Sys2Proof.Machine
end

section
/-! PROOF of the family 20_memory.md. The facts about words, the frame checker, target memory and R56's relation
come first; `Takes` then says what a target that obeys holds in the middle of an operation. The commands other than
WRITE32 leave its memory where it was (`Res.Rests`), a WRITE32 writes its word or, where it fails, perhaps nothing
(`Wrote`), and each operation's memory follows from its body. -/

namespace Sys2Proof

section words

/-- The byte fields of a word are the four bytes it was put together from (R12). -/
theorem fields_of_word (b0 b1 b2 b3 : Byte) (v : Word) (h : v = (b3 ++ b2 ++ b1 ++ b0 : BitVec (8 + 8 + 8 + 8))) :
    v.extractLsb' 0 8 = b0 ∧ v.extractLsb' 8 8 = b1 ∧ v.extractLsb' 16 8 = b2 ∧ v.extractLsb' 24 8 = b3 := by
  have bits (k : Nat) := getLsbD_word4 b0 b1 b2 b3 k
  subst h
  refine ⟨?_, ?_, ?_, ?_⟩ <;> ext i hi <;> rw [← BitVec.getLsbD_eq_getElem, BitVec.getLsbD_extractLsb', bits]
  · simp [hi]
  · have h1 : 8 + i < 16 := by omega
    simp [hi, h1]
  · have h1 : 16 + i < 24 := by omega
    simp [hi, h1, show ¬ 16 + i < 8 by omega]
  · simp [hi, show ¬ 24 + i < 8 by omega, show ¬ 24 + i < 16 by omega]

/-- The halves of a word put together from four bytes (R12). -/
theorem halves_of_word (b0 b1 b2 b3 : Byte) (v : Word) (h : v = (b3 ++ b2 ++ b1 ++ b0 : BitVec (8 + 8 + 8 + 8))) :
    v.extractLsb' 0 16 = b1 ++ b0 ∧ v.extractLsb' 16 16 = b3 ++ b2 := by
  have bits (k : Nat) := getLsbD_word4 b0 b1 b2 b3 k
  subst h
  constructor <;> ext i hi <;>
    rw [← BitVec.getLsbD_eq_getElem, ← BitVec.getLsbD_eq_getElem, BitVec.getLsbD_extractLsb', bits,
      BitVec.getLsbD_append]
  · simp [hi]
  · have h1 : 16 + i < 24 ↔ i < 8 := by omega
    have h2 : 16 + i - 24 = i - 8 := by omega
    simp [hi, h1, h2, show ¬ 16 + i < 8 by omega]

/-- R176: an address whose bits [1:0] are 00. -/
theorem extractLsb'_two_eq_zero_iff (a : Word) :
    a.extractLsb' 0 2 = 0 ↔ a.getLsbD 0 = false ∧ a.getLsbD 1 = false := by
  constructor
  · intro h
    have bit (i : Nat) (hi : i < 2) : a.getLsbD i = false := by
      have := congrArg (fun x => x.getLsbD i) h
      simpa [hi] using this
    exact ⟨bit 0 (by decide), bit 1 (by decide)⟩
  · rintro ⟨h0, h1⟩
    ext i hi
    interval_cases i <;> simp [← BitVec.getLsbD_eq_getElem, h0, h1]

/-- R178: a mask that keeps bits [15:0] does not show in them. -/
theorem extractLsb'_and_mask {mask : Word} (hm : mask.extractLsb' 0 16 = 0xFFFF) (w : Word) :
    (w &&& mask).extractLsb' 0 16 = w.extractLsb' 0 16 := by
  rw [BitVec.extractLsb'_and, hm]
  exact BitVec.and_allOnes

/-- R54, R177: at an even address a[1] selects the half of the containing word. -/
theorem halfOf_of_even {mask a : Word} (ha : a.getLsbD 0 = false) (hm : mask.extractLsb' 0 16 = 0xFFFF) (w : Word) :
    halfOf mask a w = if a.getLsbD 1 then w.extractLsb' 16 16 else w.extractLsb' 0 16 := by
  have hshift : (w >>> 16).extractLsb' 0 16 = w.extractLsb' 16 16 := by
    ext i
    simp
  rw [halfOf, extractLsb'_and_mask hm]
  cases h1 : a.getLsbD 1 with
  | true =>
    have hne : ¬ a.extractLsb' 0 2 = 0 := fun h => by
      obtain ⟨_, h0⟩ := (extractLsb'_two_eq_zero_iff a).mp h
      exact Bool.false_ne_true (h0.symm.trans h1)
    rw [if_neg hne, hshift, if_pos rfl]
  | false =>
    rw [if_pos ((extractLsb'_two_eq_zero_iff a).mpr ⟨ha, h1⟩), if_neg Bool.false_ne_true]

end words

section decoder

variable {c : Config} {f : Frame}

/-- Where one entry of a list has a key and every entry sought has the same, the search finds it. -/
theorem find?_eq_of_nodup_key {α β : Type} {p : α → Bool} {key : α → β} {r : α} {l : List α}
    (hnodup : (l.map key).Nodup) (hr : r ∈ l) (hp : p r = true) (hkey : ∀ x, p x = true → key x = key r) :
    l.find? p = some r := by
  induction l with
  | nil => cases hr
  | cons x l ih =>
    obtain ⟨hx, hl⟩ := List.nodup_cons.mp hnodup
    cases hpx : p x with
    | true =>
      have hxr : x = r := by
        rcases List.mem_cons.mp hr with rfl | hr
        · rfl
        · exact absurd (hkey x hpx ▸ List.mem_map_of_mem hr) hx
      rw [List.find?_cons_of_pos hpx, hxr]
    | false =>
      have hne : r ≠ x := fun h => by simp [← h, hp] at hpx
      rw [List.find?_cons_of_neg (by simp [hpx]), ih hl ((List.mem_cons.mp hr).resolve_left hne)]

/-- R80: bytes 0 and 1 of a frame are compared, and byte 2 where the row has a parameter. -/
theorem matchesFrame_iff {r : FrameRow} : r.matchesFrame f = true ↔
    (r.b0, r.b1) = (f.getD 0 0, f.getD 1 0) ∧ r.param.all (· == f.getD 2 0) = true := by
  simp [FrameRow.matchesFrame]

/-- R80: under distinct heads a frame that matches a row is that row's command. -/
theorem decodeHead_of_row {r : FrameRow} (hc : c.framesDistinct = true) (hr : r ∈ frameRows c)
    (hm : r.matchesFrame f = true) : decodeHead c f = some (r.op (le32 f 2) (le32 f 6)) := by
  have heads : ((frameRows c).map fun x => (x.b0, x.b1)).Nodup := of_decide_eq_true hc
  have head (x : FrameRow) (hx : x.matchesFrame f = true) : (x.b0, x.b1) = (r.b0, r.b1) :=
    (matchesFrame_iff.mp hx).1.trans (matchesFrame_iff.mp hm).1.symm
  rw [decodeHead, find?_eq_of_nodup_key heads hr hm head]
  rfl

/-- R74, R79: every command has its row, in the order of the commands, and the operands of its frame are read back
where the encoder put them. -/
theorem exists_row (c : Config) (op : FrameOp) : ∃ r ∈ frameRows c,
    r.matchesFrame (encodeFrame c op) = true ∧ r.op (le32 (encodeFrame c op) 2) (le32 (encodeFrame c op) 6) = op := by
  have hlt : op.ctorIdx < (frameRows c).length := by cases op <;> exact Nat.le_of_ble_eq_true rfl
  refine ⟨(frameRows c)[op.ctorIdx], List.getElem_mem hlt, matchesFrame_iff.mpr ⟨?_, ?_⟩, ?_⟩
  · cases op <;> rfl
  · cases op with
    | enterSwd => exact beq_self_eq_true c.enterSwd
    | hardReset => exact beq_self_eq_true c.hardResetArg
    | _ => rfl
  · cases op with
    | read32 a => exact congrArg FrameOp.read32 (word_of_fields a)
    | write32 a w => exact congrArg₂ FrameOp.write32 (word_of_fields a) (word_of_fields w)
    | _ => rfl

/-- R72, R73: past the bytes a format assigns, the encoder's frame is padding. -/
theorem drop_assigned_encodeFrame (c : Config) (op : FrameOp) :
    ((encodeFrame c op).drop op.assigned).all (· == 0) = true := by
  cases op <;> rfl

/-- R80, R101: the frame checker reads back the command of every frame the encoder builds. -/
theorem decodeFrame_encodeFrame (hc : c.framesDistinct = true) (op : FrameOp) :
    decodeFrame c (encodeFrame c op) = .ok op := by
  obtain ⟨r, hr, hmatch, hop⟩ := exists_row c op
  have head : decodeHead c (encodeFrame c op) = some op := by rw [decodeHead_of_row hc hr hmatch, hop]
  rw [decodeFrame, if_pos (length_encodeFrame c op), head]
  exact if_pos (drop_assigned_encodeFrame c op)

/-- R57: the one command that writes target memory. -/
def FrameOp.writesMemory : FrameOp → Bool
  | .write32 _ _ => true
  | _ => false

end decoder

end Sys2Proof

namespace Sys2Proof.Machine

section read16

variable {s : State} {a : Word} {b : List Byte}

/-- R170: a READ32 the transport answers returns the reply's second word. -/
theorem opRead32_answered (ho : s.session.isOpen = true) (h : Answers s 8 b) (a : Word) :
    opRead32 a s = .ok (le32 b 4) (s.exchanged (encodeFrame s.cfg (.read32 a)) 8 b) := by
  simp [opRead32, prologue_of_open ho, Config.respLenRead32, command_answered h]

theorem opRead16_odd (ho : s.session.isOpen = true) (ha : a.getLsbD 0 = true) :
    opRead16 a s = .err (.unalignedAccess a) s := by
  simp [opRead16, prologue_of_open ho, isOdd, ha]

/-- R176, R177: the containing word is read at step 1, and its half returned. -/
theorem opRead16_answered (ho : s.session.isOpen = true) (ha : a.getLsbD 0 = false) (h : Answers s 8 b) :
    opRead16 a s = .ok (halfOf s.cfg.read16Mask a (le32 b 4))
      ((s.exchanged (encodeFrame s.cfg (.read32 (wordAddr a))) 8 b).setSeq 1) := by
  have heven : isOdd a = false := ha
  simp [opRead16, prologue_of_open ho, heven, opRead32_answered (s := s.setSeq 1) ho h]

/-- Settles O25: the frame, the reply and the half of an even address; an odd one ends before the frame. -/
theorem read16Result : Obligations.Read16Result := by
  intro s a ⟨hready, hopen⟩
  have ho : (begin s).session.isOpen = true := hopen
  refine ⟨fun hodd => ?_, fun b heven hmask hans => ?_⟩
  · rw [exec_eq_perform, perform_ready _ _ hready, opBody, opRead16_odd ho hodd]
    rfl
  · have hm : s.cfg.read16Mask.extractLsb' 0 16 = 0xFFFF := by simpa [Config.maskOk] using hmask
    obtain ⟨hlow, hhigh⟩ := halves_of_word _ _ _ _ (le32 b 4) rfl
    rw [exec_eq_perform, perform_ready _ _ hready, opBody, opRead16_answered (s := begin s) ho heven hans,
      begin_cfg, halfOf_of_even heven hm, hlow, hhigh]
    rfl

end read16

section memory

/-- Putting back the byte an address reads as leaves a canonical list of cells as it is. -/
theorem putCell_lookup_eq_self (a : Nat) (l : List Host.Cell) (hrising : l.Pairwise fun x y => x.1 < y.1)
    (hlisted : ∀ c ∈ l, c.2 ≠ unlisted) : putCell a ((l.lookup a).getD unlisted) l = l := by
  induction l with
  | nil => simp [putCell]
  | cons c l ih =>
    obtain ⟨k, v⟩ := c
    obtain ⟨hk, hl⟩ := List.pairwise_cons.mp hrising
    have hv : v ≠ unlisted := hlisted (k, v) List.mem_cons_self
    rcases Nat.lt_trichotomy a k with hlt | rfl | hgt
    · have hnone : ((k, v) :: l).lookup a = none := by
        rw [List.lookup_eq_none_iff]
        intro p hp
        have hap : a < p.1 := by
          rcases List.mem_cons.mp hp with rfl | hp
          · exact hlt
          · exact Nat.lt_trans hlt (hk p hp)
        simpa using hap.ne
      simp [putCell, hnone, hlt]
    · simp [putCell, hv]
    · have hne : (a == k) = false := by simpa using hgt.ne'
      simp [putCell, List.lookup_cons, hne, Nat.not_lt_of_gt hgt, hgt.ne',
        ih hl fun c hc => hlisted c (List.mem_cons_of_mem _ hc)]

/-- Writing back the byte an address reads as changes nothing. -/
theorem Memory.writeByte_readByte (m : Memory) (a : Nat) (h : m.wf = true) :
    m.writeByte a (m.readByte a) = m := by
  obtain ⟨hrising, hcells⟩ := (Memory.wf_iff m).mp h
  exact congrArg Memory.mk (putCell_lookup_eq_self a m.cells hrising fun c hc => (hcells c hc).1)

/-- R58: writing back the word an address reads as changes nothing. -/
theorem Memory.write32_read32 (m : Memory) (a : Word) (h : m.wf = true) : m.write32 a (m.read32 a) = m := by
  obtain ⟨h0, h1, h2, h3⟩ := fields_of_word _ _ _ _ (m.read32 a) rfl
  simp only [Memory.write32, h0, h1, h2, h3, Memory.writeByte_readByte _ _ h]

end memory

section environment

variable {c : Config} {m m' : Memory}

/-- The frames of two runs of port events stand one after the other, where the second does not start with a
Recv that would belong to the first. -/
theorem exchanges_append (l r : List Event) (hr : ∀ ep n a rest, r ≠ .recv ep n a :: rest) :
    exchanges (l ++ r) = exchanges l ++ exchanges r := by
  induction l using exchanges.induct with
  | case1 => rfl
  | case2 ep f ep' n b rest ih => simp [exchanges, ih]
  | case3 ep f ep' n a rest hne ih =>
    rcases a with _ | b | e
    · simp [exchanges, ih]
    · exact absurd rfl (hne b)
    · simp [exchanges, ih]
  | case4 ep f rest h1 h2 ih =>
    cases rest with
    | nil =>
      cases r with
      | nil => rfl
      | cons e r =>
        cases e with
        | recv ep' n a => exact absurd rfl (hr ep' n a r)
        | send ep' g a => rfl
        | close => rfl
    | cons e rest =>
      cases e with
      | recv ep' n a => exact absurd rfl (h2 ep' n a rest)
      | send ep' g a => simpa [exchanges] using ih
      | close => simpa [exchanges] using ih
  | case5 ep f a rest h1 h2 h3 ih =>
    rcases a with _ | _ | e
    · simp [exchanges, ih]
    · exact absurd rfl h3
    · simp [exchanges, ih]
  | case6 ep n a rest ih => simpa [exchanges] using ih
  | case7 rest ih => simpa [exchanges] using ih

theorem memoryRuns_append {l r : List (Frame × Delivery)} :
    memoryRuns c m (l ++ r) m' ↔ ∃ m1, memoryRuns c m l m1 ∧ memoryRuns c m1 r m' := by
  induction l generalizing m with
  | nil => simp [memoryRuns]
  | cons x l ih =>
    obtain ⟨f, d⟩ := x
    simp only [List.cons_append, memoryRuns, ih]
    constructor
    · rintro ⟨m1, hserves, m2, hl, hr⟩
      exact ⟨m2, ⟨m1, hserves, hl⟩, hr⟩
    · rintro ⟨m2, ⟨m1, hserves, hl⟩, hr⟩
      exact ⟨m1, hserves, m2, hl, hr⟩

/-- The target goes on from the memory it had. -/
theorem targetObeys_append {l r : List Event} (hr : ∀ ep n a rest, r ≠ .recv ep n a :: rest) :
    TargetObeys c m (l ++ r) m' ↔ ∃ m1, TargetObeys c m l m1 ∧ TargetObeys c m1 r m' := by
  rw [TargetObeys, exchanges_append l r hr, memoryRuns_append]
  rfl

/-- R13: the port events of a `Transact` are one exchange of its frame. -/
theorem TransactEvents.exchanges_eq {s : State} {f : Frame} {evs : List Event} (h : TransactEvents s f evs) :
    ∃ d, exchanges evs = [(f, d)] := by
  obtain ⟨a, rfl⟩ | ⟨n, a, rfl⟩ := h
  · rcases a with _ | _ | _ <;> exact ⟨_, rfl⟩
  · rcases a with _ | _ | _ <;> exact ⟨_, rfl⟩

theorem targetObeys_of_exchanges {evs : List Event} {f : Frame} {d : Delivery} (h : exchanges evs = [(f, d)]) :
    TargetObeys c m evs m' ↔ memoryServes c m f d m' := by
  simp [TargetObeys, h, memoryRuns]

/-- A `Transact` answered with b, of which n > 0 bytes were asked. -/
theorem exchanges_exchangeEvents (s : State) (f : Frame) {n : Nat} {b : List Byte} (hn : n ≠ 0) (hb : b.length = n) :
    exchanges (exchangeEvents s f n b) = [(f, .replied b)] := by
  simp [exchangeEvents, hn, exchanges, hb]

variable (hc : c.framesDistinct = true)
include hc

/-- R56: a frame that is no WRITE32 leaves the memory as it was. -/
theorem memoryServes_other {op : FrameOp} {d : Delivery} (hop : op.writesMemory = false)
    (h : memoryServes c m (encodeFrame c op) d m') : m' = m := by
  unfold memoryServes at h
  rw [decodeFrame_encodeFrame hc] at h
  cases op with
  | write32 a w => cases hop
  | read32 a =>
    cases d with
    | replied b => exact h.1
    | delivered => exact h
    | unsure => exact h
  | _ => exact h

/-- R56: what the reply to a READ32 frame carries. -/
theorem memoryServes_read32 {a : Word} {b : List Byte} (ha : aligned a = true)
    (h : memoryServes c m (encodeFrame c (.read32 a)) (.replied b) m') : m' = m ∧ le32 b 4 = m.read32 a := by
  unfold memoryServes at h
  rw [decodeFrame_encodeFrame hc] at h
  exact ⟨h.1, h.2 ha⟩

/-- R56: an acknowledged WRITE32 frame was performed. -/
theorem memoryServes_write32 {a w : Word} {b : List Byte} (ha : aligned a = true)
    (h : memoryServes c m (encodeFrame c (.write32 a w)) (.replied b) m') : m' = m.write32 a w := by
  unfold memoryServes at h
  rw [decodeFrame_encodeFrame hc] at h
  exact h.2 ha

/-- R56, R169: however far a WRITE32 frame got, it was performed or it was not. -/
theorem memoryServes_write32_cases {a w : Word} {d : Delivery} (ha : aligned a = true)
    (h : memoryServes c m (encodeFrame c (.write32 a w)) d m') : m' = m ∨ m' = m.write32 a w := by
  unfold memoryServes at h
  rw [decodeFrame_encodeFrame hc] at h
  cases d with
  | replied b => exact .inr (h.2 ha)
  | delivered => exact .inr (h.2 ha)
  | unsure => exact h.2 ha

end environment

section takes

/-- In the middle of an operation that started in s0: a target that obeys, and whose memory was m then, now has
one of P (R56). -/
structure Takes (s0 : State) (m : Memory) (P : Memory → Prop) (t : State) : Prop where
  cfg : t.cfg = s0.cfg
  noResult : t.result = none
  memory : ∃ evs, t.trace = s0.trace ++ evs ∧ ∀ m', TargetObeys s0.cfg m evs m' → P m'

variable {s0 s t : State} {m : Memory} {P Q : Memory → Prop}

theorem takes_begin (s : State) (m : Memory) : Takes s m (· = m) (begin s) :=
  ⟨rfl, rfl, [], (List.append_nil _).symm, fun _ h => h⟩

theorem Takes.mono (h : Takes s0 m P s) (hPQ : ∀ x, P x → Q x) : Takes s0 m Q s where
  cfg := h.cfg
  noResult := h.noResult
  memory := h.memory.imp fun _ ⟨htrace, hP⟩ => ⟨htrace, fun x hx => hPQ x (hP x hx)⟩

theorem Takes.setSeq (h : Takes s0 m P s) (k : Nat) : Takes s0 m P (s.setSeq k) := { h with }

theorem Takes.setRun (h : Takes s0 m P s) (x : RunState) : Takes s0 m P (s.setRun x) := { h with }

theorem Takes.setCpuid (h : Takes s0 m P s) (v : Word) : Takes s0 m P (s.setCpuid v) := { h with }

theorem Takes.setDrawn (h : Takes s0 m P s) (k : Nat) : Takes s0 m P (s.setDrawn k) := { h with }

/-- Further uses of the port move the memory on, as a target that obeys them does. -/
theorem Takes.events {evs : List Event} (h : Takes s0 m P s) (hcfg : t.cfg = s.cfg) (hresult : t.result = s.result)
    (htrace : t.trace = s.trace ++ evs) (hrecv : ∀ ep n a rest, evs ≠ .recv ep n a :: rest)
    (hPQ : ∀ x y, P x → TargetObeys s0.cfg x evs y → Q y) : Takes s0 m Q t := by
  obtain ⟨before, hbefore, hP⟩ := h.memory
  refine ⟨hcfg.trans h.cfg, hresult.trans h.noResult, before ++ evs, ?_, fun y hy => ?_⟩
  · rw [htrace, hbefore, List.append_assoc]
  · obtain ⟨x, hx, hxy⟩ := (targetObeys_append hrecv).mp hy
    exact hPQ x y (hP x hx) hxy

theorem Takes.closeTransport (h : Takes s0 m P s) : Takes s0 m P (closeTransport s) :=
  h.events (evs := [.close]) rfl rfl rfl nofun fun x y hx hy => (show y = x from hy) ▸ hx

/-- A `Transact`, however it came out: what the target may have made of its frame. -/
theorem Takes.transacted {f : Frame} {answered : Prop} (h : Takes s0 m P s) (ht : Transacted f answered s t)
    (hPQ : ∀ d x y, P x → memoryServes s0.cfg x f d y → Q y) : Takes s0 m Q t := by
  obtain ⟨evs, hevs, _, htrace⟩ := ht.events
  obtain ⟨d, hd⟩ := hevs.exchanges_eq
  refine h.events ht.cfg ht.result htrace ?_ fun x y hx hxy => hPQ d x y hx ((targetObeys_of_exchanges hd).mp hxy)
  rintro ep n a rest rfl
  obtain ⟨_, heq⟩ | ⟨_, _, heq⟩ := hevs <;> cases heq

/-- A `Transact` that got its reply: what the target made of its frame, and with which reply. -/
theorem Takes.exchanged {f : Frame} {n : Nat} {b : List Byte} (h : Takes s0 m P s) (hn : n ≠ 0) (hb : b.length = n)
    (hPQ : ∀ x y, P x → memoryServes s0.cfg x f (.replied b) y → Q y) : Takes s0 m Q (s.exchanged f n b) :=
  h.events rfl rfl rfl nofun fun x y hx hxy =>
    hPQ x y hx ((targetObeys_of_exchanges (exchanges_exchangeEvents s f hn hb)).mp hxy)

/-- The two together: R is what a reply says, Q what is left to say without one. -/
theorem command_takes {op : FrameOp} {n : Nat} {R : List Byte → Memory → Prop} (h : Takes s0 m P s) (hn : n ≠ 0)
    (hreply : ∀ b x y, P x → memoryServes s0.cfg x (encodeFrame s0.cfg op) (.replied b) y → R b y)
    (hany : ∀ d x y, P x → memoryServes s0.cfg x (encodeFrame s0.cfg op) d y → Q y) :
    (command op n s).Sat (fun b => Takes s0 m (R b)) (fun _ => Takes s0 m Q) (Takes s0 m Q) := by
  have ht := transact_transacted (encodeFrame s.cfg op) n s
  rw [command]
  cases e : transact (encodeFrame s.cfg op) n s with
  | ok b u =>
    obtain ⟨hans, rfl⟩ := transact_ok e
    exact h.exchanged hn (length_of_answers hans) fun x y hx hxy => hreply b x y hx (h.cfg ▸ hxy)
  | err x u =>
    rw [e] at ht
    exact h.transacted ht fun d x y hx hxy => hany d x y hx (h.cfg ▸ hxy)
  | blocked u =>
    rw [e] at ht
    exact h.transacted ht fun d x y hx hxy => hany d x y hx (h.cfg ▸ hxy)

end takes

section rests

variable {α : Type} {s0 s : State} {m : Memory} {P : Memory → Prop}

/-- However a piece of an operation comes out, the target's memory is one of P. -/
def Res.Rests (s0 : State) (m : Memory) (P : Memory → Prop) (r : Res α) : Prop :=
  r.Within (Takes s0 m P) (Takes s0 m P)

theorem opClose_rests (h : Takes s0 m P s) : (opClose s).Rests s0 m P := by
  unfold opClose
  split
  · exact .ok _ h.closeTransport
  · exact .ok _ h

variable (hc : s0.cfg.framesDistinct = true)
include hc

/-- R56: a command that is no WRITE32 leaves the memory where it was, answered or not. -/
theorem transact_rests (h : Takes s0 m P s) {op : FrameOp} (hop : op.writesMemory = false) (n : Nat) :
    (transact (encodeFrame s.cfg op) n s).Rests s0 m P := by
  have keep (d : Delivery) (x y : Memory) (hx : P x) (hxy : memoryServes s0.cfg x (encodeFrame s.cfg op) d y) : P y :=
    memoryServes_other hc hop (h.cfg ▸ hxy) ▸ hx
  exact (transact_transacted ..).mono (fun _ _ ht => h.transacted ht keep) (fun _ _ ht => h.transacted ht keep)
    (fun _ ht => h.transacted ht keep)

theorem ackCommand_rests (h : Takes s0 m P s) {op : FrameOp} (hop : op.writesMemory = false) (n : Nat)
    (x : RunState) : (ackCommand op n x s).Rests s0 m P :=
  prologue_bind_within h (.bind (transact_rests hc h hop n) fun _ _ ht => .ok _ (ht.setRun x))

theorem opMode_rests (h : Takes s0 m P s) : (opMode s).Rests s0 m P :=
  prologue_bind_within h (.bind (transact_rests hc h rfl _) fun _ _ ht => .ok _ (ht.setDrawn _))

theorem opExitDfu_rests (h : Takes s0 m P s) : (opExitDfu s).Rests s0 m P := by
  refine prologue_bind_within h ?_
  rw [send_eq_transact]
  exact .bind (transact_rests hc h rfl _) fun _ _ ht => .ok _ ht

theorem opEnterSwd_rests (h : Takes s0 m P s) : (opEnterSwd s).Rests s0 m P :=
  prologue_bind_within h (.bind (transact_rests hc h rfl _) fun _ _ ht => .ok _ ht)

theorem opStatus_rests (h : Takes s0 m P s) : (opStatus s).Rests s0 m P :=
  prologue_bind_within h (.bind (transact_rests hc h rfl _) fun _ _ ht => .ok _ (ht.setRun _))

/-- R135: none of the five steps writes memory, taken or skipped. -/
theorem opSessionInit_rests (h : Takes s0 m P s) : (opSessionInit s).Rests s0 m P := by
  refine prologue_bind_within h (.bind (opMode_rests hc (h.setSeq 1)) fun m1 s1 h1 => ?_)
  refine Res.Within.bind (.ite (fun _ => ?_) (.ok _ (h1.setSeq 2))) fun _ s2 h2 => ?_
  · exact (opExitDfu_rests hc (h1.setSeq 2)).attempt
  refine Res.Within.bind (opMode_rests hc (h2.setSeq 3)) fun m2 s3 h3 => ?_
  refine Res.Within.bind (.ite (fun _ => .ok _ (h3.setSeq 4)) (opEnterSwd_rests hc (h3.setSeq 4))) fun _ s4 h4 => ?_
  exact Res.Within.bind (opStatus_rests hc (h4.setSeq 5)) fun _ s5 h5 => .ok _ (h5.setSeq 0)

theorem opVersion_rests (h : Takes s0 m P s) : (opVersion s).Rests s0 m P :=
  prologue_bind_within h (.bind (transact_rests hc h rfl _) fun _ _ ht => .ok _ ht)

theorem opTargetVoltage_rests (h : Takes s0 m P s) : (opTargetVoltage s).Rests s0 m P :=
  prologue_bind_within h (.bind (transact_rests hc h rfl _) fun _ _ ht =>
    .bind (.ok _ (ht.setDrawn _)) fun _ _ hu => .ite (fun _ => .err _ hu) (.ok _ hu))

theorem opCoreId_rests (h : Takes s0 m P s) : (opCoreId s).Rests s0 m P :=
  prologue_bind_within h (.bind (transact_rests hc h rfl _) fun _ _ ht => .ok _ (ht.setDrawn _))

theorem opRead32_rests (h : Takes s0 m P s) (a : Word) : (opRead32 a s).Rests s0 m P :=
  prologue_bind_within h (.bind (transact_rests hc h rfl _) fun _ _ ht => .ok _ ht)

theorem opCpuId_rests (h : Takes s0 m P s) : (opCpuId s).Rests s0 m P :=
  prologue_bind_within h (.bind (opRead32_rests hc (h.setSeq 1) _) fun v _ ht => .ok _ (ht.setCpuid v))

theorem opRead16_rests (h : Takes s0 m P s) (a : Word) : (opRead16 a s).Rests s0 m P :=
  prologue_bind_within h (.ite (fun _ => .err _ h)
    (.bind (opRead32_rests hc (h.setSeq 1) _) fun _ _ ht => .ok _ ht))

theorem opCortexPartNumber_rests (h : Takes s0 m P s) : (opCortexPartNumber s).Rests s0 m P :=
  prologue_bind_within h (.bind (.ite (fun _ => opCpuId_rests hc (h.setSeq 1)) (.ok _ h)) fun _ _ ht => .ok _ ht)

theorem opChipId_rests (h : Takes s0 m P s) : (opChipId s).Rests s0 m P :=
  prologue_bind_within h (.bind (opCortexPartNumber_rests hc (h.setSeq 1)) fun _ _ ht =>
    opRead32_rests hc (ht.setSeq 2) _)

theorem opDevId_rests (h : Takes s0 m P s) : (opDevId s).Rests s0 m P :=
  prologue_bind_within h (.bind (opChipId_rests hc (h.setSeq 1)) fun _ _ ht => .ok _ ht)

theorem opFlashSize_rests (h : Takes s0 m P s) : (opFlashSize s).Rests s0 m P := by
  refine prologue_bind_within h (.bind (opDevId_rests hc (h.setSeq 1)) fun f t ht => ?_)
  cases flashAddrOf t.cfg f with
  | none => exact .err _ ht
  | some a => exact opRead16_rests hc (ht.setSeq 2) a

/-- R57: WRITE32 and CORE_RESET_HALT alone write memory. -/
theorem opBody_rests (h : Takes s0 m P s) {i : Instr} (hwrite : ∀ a w, i ≠ .write32 a w)
    (hreset : i ≠ .coreResetHalt) : (opBody i s).Rests s0 m P := by
  cases i with
  | mode => exact (opMode_rests hc h).value
  | exitDfu => exact (opExitDfu_rests hc h).value
  | enterSwd => exact (opEnterSwd_rests hc h).value
  | sessionInit => exact (opSessionInit_rests hc h).value
  | close => exact (opClose_rests h).value
  | version => exact (opVersion_rests hc h).value
  | targetVoltage => exact (opTargetVoltage_rests hc h).value
  | status => exact (opStatus_rests hc h).value
  | halt => exact (ackCommand_rests hc h rfl ..).value
  | step => exact (ackCommand_rests hc h rfl ..).value
  | run => exact (ackCommand_rests hc h rfl ..).value
  | reset => exact (ackCommand_rests hc h rfl ..).value
  | hardReset => exact (ackCommand_rests hc h rfl ..).value
  | forceDebug => exact (ackCommand_rests hc h rfl ..).value
  | coreId => exact (opCoreId_rests hc h).value
  | read32 a => exact (opRead32_rests hc h a).value
  | write32 a w => exact absurd rfl (hwrite a w)
  | read16 a => exact (opRead16_rests hc h a).value
  | cpuId => exact (opCpuId_rests hc h).value
  | coreResetHalt => exact absurd rfl hreset
  | cortexPartNumber => exact (opCortexPartNumber_rests hc h).value
  | chipId => exact (opChipId_rests hc h).value
  | devId => exact (opDevId_rests hc h).value
  | familyGroup f => exact Res.Within.ok _ h
  | flashSize => exact (opFlashSize_rests hc h).value
  | clockSpeed => exact (opClockSpeed_within h).value

end rests

section outcome

/-- What the body of an operation says of the memory holds of the memory that its events leave: E however it
came out, and P of the value on the result port. -/
theorem exec_memory {i : Instr} {s t : State} {m m' : Memory} {P : Value → Memory → Prop} {E : Memory → Prop}
    (he : exec i s = .next t) (hbody : (opBody i (begin s)).Sat (fun v => Takes s m (P v)) (fun _ => Takes s m E)
      (Takes s m E)) (hPE : ∀ v x, P v x → E x) (hobeys : TargetObeys s.cfg m (newEvents s t) m') :
    E m' ∧ ∀ v, t.result = some (.ok v) → P v m' := by
  have now {Q : Memory → Prop} {u : State} (hu : Takes s m Q u) (htrace : t.trace = u.trace) : Q m' := by
    obtain ⟨evs, hevs, hQ⟩ := hu.memory
    rw [newEvents, htrace, hevs, List.drop_left] at hobeys
    exact hQ m' hobeys
  obtain ⟨_, rfl⟩ := exec_next he
  cases e : opBody i (begin s) with
  | ok v u =>
    rw [e] at hbody now
    have hP : P v m' := now hbody rfl
    exact ⟨hPE v m' hP, fun x hx => by cases hx; exact hP⟩
  | err x u =>
    rw [e] at hbody now
    exact ⟨now hbody rfl, nofun⟩
  | blocked u =>
    rw [e] at hbody now
    exact ⟨now hbody rfl, fun v hv => nomatch hbody.noResult.symm.trans hv⟩

/-- Settles O56: the body of every other operation leaves the memory where it was. -/
theorem otherOperationsKeepTargetMemory : Obligations.OtherOperationsKeepTargetMemory := by
  intro i s t m m' hc hwrite hreset he hobeys
  have hbody := opBody_rests hc (takes_begin s m) hwrite hreset
  exact (exec_memory (P := fun _ => (· = m)) he hbody (fun _ _ => id) hobeys).1

end outcome

section read

variable {s0 s : State} {m : Memory} {P : Memory → Prop}

/-- R56, R170: a READ32 of an aligned address that ends with Ok returns the word that stands there. -/
theorem opRead32_reads (hc : s0.cfg.framesDistinct = true) (h : Takes s0 m P s) {a : Word} (ha : aligned a = true) :
    (opRead32 a s).Sat (fun v => Takes s0 m fun x => P x ∧ v = x.read32 a) (fun _ => Takes s0 m P)
      (Takes s0 m P) := by
  refine prologue_bind_sat h (.bind (command_takes (R := fun b x => P x ∧ le32 b 4 = x.read32 a) h (by decide)
    (fun b x y hx hxy => ?reply) fun d x y hx hxy => ?any) fun b t ht => ht)
  case reply =>
    obtain ⟨rfl, hb⟩ := memoryServes_read32 hc ha hxy
    exact ⟨hx, hb⟩
  case any => exact memoryServes_other hc rfl hxy ▸ hx

end read

section write

/-- Of x: memory y with w written at a; where the write `failed`, perhaps y itself (R169). -/
def Wrote (a w : Word) (failed : Prop) (y x : Memory) : Prop := x = y.write32 a w ∨ failed ∧ x = y

/-- Every byte outside the words at the addresses l reads in x as in m. -/
def SameOutside (l : List Word) (m x : Memory) : Prop :=
  ∀ k, (∀ r ∈ l, k < r.toNat ∨ r.toNat + 3 < k) → x.readByte k = m.readByte k

variable {s0 s : State} {m x y : Memory} {a w : Word} {l : List Word} {failed failed' : Prop}

theorem wrote_false_iff : Wrote a w False y x ↔ x = y.write32 a w := by simp [Wrote]

theorem Takes.wrote_mono (h : Takes s0 m (Wrote a w failed y) s) (hf : failed → failed') :
    Takes s0 m (Wrote a w failed' y) s := h.mono fun _ => .imp_right (.imp_left hf)

theorem Takes.wrote_of_failed (h : Takes s0 m (· = y) s) (hf : failed) : Takes s0 m (Wrote a w failed y) s :=
  h.mono fun _ hx => .inr ⟨hf, hx⟩

theorem SameOutside.write32 (h : SameOutside l m y) (hl : a ∈ l) (w : Word) : SameOutside l m (y.write32 a w) :=
  fun k hk => (Memory.readByte_write32_other y a w k (hk a hl)).trans (h k hk)

/-- Written or not, a word leaves the bytes outside it alone. -/
theorem Wrote.sameOutside (hx : Wrote a w failed y x) (h : SameOutside l m y) (hl : a ∈ l) : SameOutside l m x := by
  obtain rfl | ⟨_, rfl⟩ := hx
  · exact h.write32 hl w
  · exact h

/-- R179: the three addresses CORE_RESET_HALT writes. -/
def resetAddrs (c : Config) : List Word := [c.dhcsrAddr, c.demcrAddr, c.aircrAddr]

/-- R179: the memory after the three writes of CORE_RESET_HALT. -/
def Memory.resetHalt (c : Config) (m : Memory) : Memory :=
  ((m.write32 c.dhcsrAddr c.dhcsrHaltWord).write32 c.demcrAddr c.demcrHaltAfterResetWord).write32 c.aircrAddr
    c.aircrResetWord

theorem Memory.resetHalt_sameOutside (c : Config) (m : Memory) : SameOutside (resetAddrs c) m (m.resetHalt c) := by
  have same0 : SameOutside (resetAddrs c) m m := fun _ _ => rfl
  exact ((same0.write32 (by simp [resetAddrs]) _).write32 (by simp [resetAddrs]) _).write32 (by simp [resetAddrs]) _

variable (hc : s0.cfg.framesDistinct = true)
include hc

/-- R56, R171: the one-frame write. -/
theorem writeStep_wrote (ha : aligned a = true) (h : Takes s0 m (· = y) s) : (writeStep a w s).Sat
    (fun _ => Takes s0 m (Wrote a w False y)) (fun _ => Takes s0 m (Wrote a w True y))
    (Takes s0 m (Wrote a w True y)) := by
  refine command_takes (R := fun _ => Wrote a w False y) h (by decide) ?reply ?any
  case reply =>
    rintro b z x rfl hserves
    exact .inl (memoryServes_write32 hc ha hserves)
  case any =>
    rintro d z x rfl hserves
    exact (memoryServes_write32_cases hc ha hserves).symm.imp_right fun hx => ⟨trivial, hx⟩

/-- R173, R56: WRITE32 writes its word, and where it raises it may have. HALT and RUN of the bracket leave memory
alone; an error of HALT or of the write stands in herr and werr until the end. -/
theorem opWrite32_wrote (ha : aligned a = true) (h : Takes s0 m (· = y) s) : (opWrite32 a w s).Sat
    (fun _ => Takes s0 m (Wrote a w False y)) (fun _ => Takes s0 m (Wrote a w True y))
    (Takes s0 m (Wrote a w True y)) := by
  refine prologue_bind_sat (h.wrote_of_failed trivial) (.bind (Q := fun _ => Takes s0 m (· = y)) ?halt
    fun herr s1 h1 => .bind (Q := fun werr => Takes s0 m (Wrote a w (herr.or werr ≠ none) y)) ?write
    fun werr s2 h2 => .bind (Q := fun _ => Takes s0 m (Wrote a w (herr.or werr ≠ none) y)) ?resume
    fun rerr s3 h3 => ?raise)
  case halt =>
    split
    · exact .attempt ((ackCommand_rests hc (h.setSeq 1) rfl ..).mono (fun _ _ => id) (fun _ _ => id)
        fun _ ht => ht.wrote_of_failed trivial)
    · exact h
  case write =>
    split
    · next hnone =>
      subst hnone
      exact .attempt ((writeStep_wrote hc ha (h1.setSeq 2)).mono (fun _ _ ht => ht.wrote_mono False.elim)
        (fun _ _ ht => ht.wrote_mono fun _ => nofun) fun _ => id)
    · next hsome => exact h1.wrote_of_failed (by simp [hsome])
  case resume =>
    split
    · exact .attempt ((ackCommand_rests hc (h2.setSeq 3) rfl ..).mono (fun _ _ => id) (fun _ _ => id)
        fun _ ht => ht.wrote_mono fun _ => trivial)
    · exact h2
  case raise =>
    rw [← Option.or_assoc]
    cases he : herr.or werr with
    | some e => exact (h3.setSeq 0).wrote_mono fun _ => trivial
    | none =>
      have hwrote : Takes s0 m (Wrote a w False y) (s3.setSeq 0) := (h3.setSeq 0).wrote_mono fun hne => hne he
      cases rerr with
      | some e => exact hwrote.wrote_mono False.elim
      | none => exact hwrote

/-- WRITE32 as a step of a longer operation, of which l holds the addresses written. -/
theorem opWrite32_writes (ha : aligned a = true) (h : Takes s0 m (· = y) s) (hy : SameOutside l m y) (hl : a ∈ l) :
    (opWrite32 a w s).Sat (fun _ => Takes s0 m (· = y.write32 a w)) (fun _ => Takes s0 m (SameOutside l m))
      (Takes s0 m (SameOutside l m)) :=
  (opWrite32_wrote hc ha h).mono (fun _ _ ht => ht.mono fun _ => wrote_false_iff.mp)
    (fun _ _ ht => ht.mono fun _ hx => hx.sameOutside hy hl) fun _ ht => ht.mono fun _ hx => hx.sameOutside hy hl

/-- R179: the write of AIRCR leaves the cache Unknown on both paths, and memory does not see the cache. -/
theorem resetWrite_writes (ha : aligned s0.cfg.aircrAddr = true) (h : Takes s0 m (· = y) s) (hy : SameOutside l m y)
    (hl : s0.cfg.aircrAddr ∈ l) : (resetWrite s).Sat
      (fun _ => Takes s0 m (· = y.write32 s0.cfg.aircrAddr s0.cfg.aircrResetWord))
      (fun _ => Takes s0 m (SameOutside l m)) (Takes s0 m (SameOutside l m)) := by
  have hw := opWrite32_writes (w := s0.cfg.aircrResetWord) hc ha h hy hl
  rw [resetWrite, h.cfg]
  cases e : opWrite32 s0.cfg.aircrAddr s0.cfg.aircrResetWord s with
  | ok _ u =>
    rw [e] at hw
    exact Takes.setRun hw .unknown
  | err x u =>
    rw [e] at hw
    exact Takes.setRun hw .unknown
  | blocked u =>
    rw [e] at hw
    exact hw

/-- R179, R56: the three writes in order; the read-back leaves memory alone. -/
theorem opCoreResetHalt_writes (halign : ∀ r ∈ resetAddrs s0.cfg, aligned r = true) (h : Takes s0 m (· = m) s) :
    (opCoreResetHalt s).Sat (fun _ => Takes s0 m (· = m.resetHalt s0.cfg))
      (fun _ => Takes s0 m (SameOutside (resetAddrs s0.cfg) m)) (Takes s0 m (SameOutside (resetAddrs s0.cfg) m)) := by
  have hd : s0.cfg.dhcsrAddr ∈ resetAddrs s0.cfg := by simp [resetAddrs]
  have he : s0.cfg.demcrAddr ∈ resetAddrs s0.cfg := by simp [resetAddrs]
  have ha : s0.cfg.aircrAddr ∈ resetAddrs s0.cfg := by simp [resetAddrs]
  have same0 : SameOutside (resetAddrs s0.cfg) m m := fun _ _ => rfl
  have same1 := same0.write32 hd s0.cfg.dhcsrHaltWord
  have same2 := same1.write32 he s0.cfg.demcrHaltAfterResetWord
  refine prologue_bind_sat (h.mono fun _ hx => hx ▸ same0) (.bind (Q := fun _ => Takes s0 m
    (· = m.write32 s0.cfg.dhcsrAddr s0.cfg.dhcsrHaltWord)) ?dhcsr fun _ s1 h1 => ?_)
  case dhcsr =>
    rw [h.cfg]
    exact opWrite32_writes hc (halign _ hd) (h.setSeq 1) same0 hd
  refine .bind (Q := fun _ => Takes s0 m (· = (m.write32 s0.cfg.dhcsrAddr s0.cfg.dhcsrHaltWord).write32
    s0.cfg.demcrAddr s0.cfg.demcrHaltAfterResetWord)) ?demcr fun _ s2 h2 => ?_
  case demcr =>
    rw [h1.cfg]
    exact opWrite32_writes hc (halign _ he) (h1.setSeq 2) same1 he
  refine .bind (resetWrite_writes hc (halign _ ha) (h2.setSeq 3) same2 ha) fun _ s3 h3 => ?_
  have error {u : State} (hu : Takes s0 m (· = m.resetHalt s0.cfg) u) :
      Takes s0 m (SameOutside (resetAddrs s0.cfg) m) u := hu.mono fun _ hx => hx ▸ m.resetHalt_sameOutside s0.cfg
  exact .bind ((opRead32_rests hc (h3.setSeq 4) _).mono (fun _ _ => id) (fun _ _ => error) fun _ => error)
    fun _ s4 h4 => h4.setSeq 0

end write

section operations

/-- The memory a WRITE32 leaves. -/
theorem exec_write32_memory {s t : State} {a w : Word} {m m' : Memory} (hc : s.cfg.framesDistinct = true)
    (ha : aligned a = true) (he : exec (.write32 a w) s = .next t)
    (hobeys : TargetObeys s.cfg m (newEvents s t) m') :
    Wrote a w True m m' ∧ (t.result = some (.ok .unit) → m' = m.write32 a w) := by
  obtain ⟨hany, hok⟩ := exec_memory (P := fun _ => Wrote a w False m) he
    (Res.Sat.value (opWrite32_wrote hc ha (takes_begin s m))) (fun _ x hx => .inl (wrote_false_iff.mp hx)) hobeys
  exact ⟨hany, fun hres => wrote_false_iff.mp (hok _ hres)⟩

/-- Settles O55: a WRITE32 that raised or blocked wrote its word or nothing. -/
theorem write32TargetMemory : Obligations.Write32TargetMemory := by
  intro s t a w m m' hc ha he hobeys
  obtain ⟨hany, hok⟩ := exec_write32_memory hc ha he hobeys
  have houtside : SameOutside [a] m m' := hany.sameOutside (fun _ _ => rfl) (List.mem_singleton_self a)
  exact ⟨fun k hk => houtside k (by simpa using hk), hok⟩

/-- Settles O57: three WRITE32s, of which the first that fails is the last. -/
theorem coreResetHaltTargetMemory : Obligations.CoreResetHaltTargetMemory := by
  intro s t m m' d e a outside hc hd he ha hexec hobeys
  have halign : ∀ r ∈ resetAddrs s.cfg, aligned r = true := by simpa [resetAddrs] using ⟨hd, he, ha⟩
  obtain ⟨hany, hok⟩ := exec_memory (P := fun _ => (· = m.resetHalt s.cfg)) hexec
    (Res.Sat.value (opCoreResetHalt_writes hc halign (takes_begin s m)))
    (fun _ _ hx => hx ▸ m.resetHalt_sameOutside s.cfg) hobeys
  exact ⟨fun k kd ke ka => hany k (by simpa [resetAddrs] using ⟨kd, ke, ka⟩), fun hres => hok _ hres⟩

/-- The memory after a READ32 and the word it returned. -/
theorem exec_read32_memory {s t : State} {a v : Word} {m m' : Memory} (hc : s.cfg.framesDistinct = true)
    (ha : aligned a = true) (he : exec (.read32 a) s = .next t) (hres : t.result = some (.ok (.word v)))
    (hobeys : TargetObeys s.cfg m (newEvents s t) m') : m' = m ∧ v = m.read32 a := by
  obtain ⟨rfl, hok⟩ := exec_memory (P := fun r x => x = m ∧ r = .word (m.read32 a)) he
    (Res.Sat.value ((opRead32_reads hc (takes_begin s m) ha).mono
      (fun v _ ht => ht.mono fun x ⟨hx, hv⟩ => ⟨hx, by rw [hv, hx]⟩) (fun _ _ => id) fun _ => id))
    (fun _ _ h => h.1) hobeys
  obtain ⟨_, hv⟩ := hok _ hres
  cases hv
  exact ⟨rfl, rfl⟩

/-- Settles O58: the first operation wrote the word, the second reads what stands there. -/
theorem readAfterWrite : Obligations.ReadAfterWrite := by
  intro s t u a w v m m1 m2 hc ha hwf hwrite hok hread hword hobeys1 hobeys2
  have hcfg : t.cfg = s.cfg := (exec_framed hwrite).cfg
  obtain ⟨_, hm1⟩ := exec_write32_memory hc ha hwrite hobeys1
  obtain ⟨hm2, hv⟩ := exec_read32_memory (hcfg ▸ hc) ha hread hword (hcfg ▸ hobeys2)
  exact ⟨by rw [hv, hm1 hok, Memory.read32_write32 m a w hwf ha], hm2⟩

/-- Settles O59: the word read is the one that stands there, and writing it back changes nothing. -/
theorem identityWriteIsNoOp : Obligations.IdentityWriteIsNoOp := by
  intro s t u a v m m1 m2 hc ha hwf hread hword hwrite hok hobeys1 hobeys2
  have hcfg : t.cfg = s.cfg := (exec_framed hread).cfg
  obtain ⟨rfl, rfl⟩ := exec_read32_memory hc ha hread hword hobeys1
  obtain ⟨_, hm2⟩ := exec_write32_memory (hcfg ▸ hc) ha hwrite (hcfg ▸ hobeys2)
  rw [hm2 hok, Memory.write32_read32 m1 a hwf]

end operations

end Sys2Proof.Machine
end

section
/-! PROOF of the family 30_encoding.md. Host requests (R70, R81): a request decodes where its code is assigned and its
operands name an operation, with one lemma per number of operands. Wire frames (R71 to R80): what stands at each byte of
a frame the encoder builds, and that a frame which matches a row of R79 has the same bytes. -/

namespace Sys2Proof

section requests

variable {code : Byte} {args : List Word} {r : Request} {i : Instr}

/-- R70: FAMILY_GROUP's argument fits its 12 bits. -/
theorem toNat_familyArg_lt (f : Code12) : (f.setWidth 32 : Word).toNat < 4096 := by
  have := f.isLt
  rw [BitVec.toNat_setWidth]
  omega

/-- R70: the 12-bit code is read back from the word it was written into. -/
theorem extractLsb'_familyArg (f : Code12) : (f.setWidth 32 : Word).extractLsb' 0 12 = f := by
  rw [BitVec.extractLsb'_setWidth_of_le (by decide), BitVec.extractLsb'_eq_self]

/-- R70: a word below 4096 is its 12-bit code. -/
theorem familyArg_extractLsb' {a : Word} (h : a.toNat < 4096) : (a.extractLsb' 0 12).setWidth 32 = a := by
  apply BitVec.eq_of_toNat_eq
  rw [BitVec.toNat_setWidth, BitVec.extractLsb'_toNat]
  omega

/-- R81: the reserved codes are 0x00 and those past 0x1A. -/
theorem requestArity_eq_none_iff : requestArity code = none ↔ code = 0 ∨ 0x1A < code.toNat := by
  unfold requestArity
  split
  · next h => exact iff_of_true rfl h
  · next h =>
    refine iff_of_false ?_ h
    split_ifs <;> nofun

theorem decodeRequest_of_reserved (h : requestArity r.code = none) : decodeRequest r = .error .reservedCode := by
  rw [decodeRequest, h]

theorem decodeRequest_eq_ok_iff :
    decodeRequest r = .ok i ↔ requestArity r.code ≠ none ∧ decodeOperands r.code r.args = some i := by
  unfold decodeRequest
  cases requestArity r.code <;> cases decodeOperands r.code r.args <;> simp

/-- R70: FAMILY_GROUP is the one operation whose argument is checked. -/
theorem decodeRequest_encodeRequest (i : Instr) : decodeRequest (encodeRequest i) = .ok i := by
  cases i with
  | familyGroup f =>
    refine decodeRequest_eq_ok_iff.mpr ⟨nofun, ?_⟩
    change decodeUnary familyGroupCode (f.setWidth 32) = _
    rw [decodeUnary, if_neg (by decide), if_neg (by decide), if_pos ⟨rfl, toNat_familyArg_lt f⟩,
      extractLsb'_familyArg]
  | _ => rfl

theorem request_eq_of_decodePlain : decodePlain code = some i → ⟨code, []⟩ = encodeRequest i := by
  fun_cases decodePlain code with
  | case23 => nofun
  | _ => subst code; rintro ⟨⟩; rfl

theorem request_eq_of_decodeUnary {a : Word} : decodeUnary code a = some i → ⟨code, [a]⟩ = encodeRequest i := by
  fun_cases decodeUnary code a with
  | case1 => subst code; rintro ⟨⟩; rfl
  | case2 => subst code; rintro ⟨⟩; rfl
  | case3 _ _ h =>
    obtain ⟨rfl, ha⟩ := h
    rintro ⟨⟩
    rw [encodeRequest, Instr.args, familyArg_extractLsb' ha]
    rfl
  | case4 => nofun

theorem request_eq_of_decodeOperands : decodeOperands code args = some i → ⟨code, args⟩ = encodeRequest i := by
  fun_cases decodeOperands code args with
  | case1 => exact request_eq_of_decodePlain
  | case2 => exact request_eq_of_decodeUnary
  | case3 => subst code; rintro ⟨⟩; rfl
  | case4 => nofun
  | case5 => nofun

/-- Settles O1: the operands alone determine the request. -/
theorem requestCodecAgrees : Obligations.RequestCodecAgrees := by
  refine ⟨decodeRequest_encodeRequest, fun r i h => ?_⟩
  obtain ⟨_, operands⟩ := decodeRequest_eq_ok_iff.mp h
  exact request_eq_of_decodeOperands operands

/-- Settles O2: the decoder looks at no argument of a reserved code. -/
theorem reservedCodesRefused : Obligations.ReservedCodesRefused := by
  intro s r rest hidle hphase hreq hcode
  have hdec : decodeRequest r = .error .reservedCode := decodeRequest_of_reserved (requestArity_eq_none_iff.mpr hcode)
  simp [Machine.step, hidle, hphase, Machine.serve, hreq, hdec, Machine.refuseRequest]

end requests

section frames

variable {c : Config} {f g : Frame} {r : FrameRow}

/-- R12: the word at a place determines the four bytes there. -/
theorem getD_eq_of_le32_eq {i : Nat} (h : le32 f i = le32 g i) {k : Nat} (hi : i ≤ k) (hk : k < i + 4) :
    f.getD k 0 = g.getD k 0 := by
  obtain ⟨f0, f1, f2, f3⟩ := fields_of_word _ _ _ _ (le32 f i) rfl
  obtain ⟨g0, g1, g2, g3⟩ := fields_of_word _ _ _ _ (le32 g i) rfl
  obtain rfl | rfl | rfl | rfl : k = i ∨ k = i + 1 ∨ k = i + 2 ∨ k = i + 3 := by omega
  · rw [← f0, ← g0, h]
  · rw [← f1, ← g1, h]
  · rw [← f2, ← g2, h]
  · rw [← f3, ← g3, h]

/-- R12: a put leaves the word at a place it does not overlap. -/
theorem le32_putLe32_other (f : Frame) {i j : Nat} (v : Word) (h : j + 3 < i ∨ i + 3 < j) :
    le32 (putLe32 f i v) j = le32 f j := by
  have byte (k : Nat) (hlo : j ≤ k) (hhi : k ≤ j + 3) : (putLe32 f i v).getD k 0 = f.getD k 0 :=
    getD_putLe32_other f i k v (by omega)
  rw [le32, byte (j + 3), byte (j + 2), byte (j + 1), byte j, le32] <;> omega

/-- R74: the address of READ32 stands little-endian at byte 2. -/
theorem le32_encodeFrame_read32 (c : Config) (a : Word) : le32 (encodeFrame c (.read32 a)) 2 = a :=
  le32_putLe32 _ 2 a (by decide : 5 < 16)

/-- R74: the address of WRITE32 stands little-endian at byte 2, where the word's put does not reach. -/
theorem le32_encodeFrame_write32_addr (c : Config) (a w : Word) : le32 (encodeFrame c (.write32 a w)) 2 = a := by
  rw [encodeFrame, le32_putLe32_other _ w (by decide)]
  exact le32_putLe32 _ 2 a (by decide : 5 < 16)

/-- R74: the word of WRITE32 stands little-endian at byte 6. -/
theorem le32_encodeFrame_write32_word (c : Config) (a w : Word) : le32 (encodeFrame c (.write32 a w)) 6 = w :=
  le32_putLe32 _ 6 w (by decide : 9 < 16)

/-- R72: a byte of the padding is 0x00, the bytes past the end of the frame included. -/
theorem getD_of_padding {n k : Nat} (h : (f.drop n).all (· == 0) = true) (hk : n ≤ k) : f.getD k 0 = 0 := by
  rcases Nat.lt_or_ge k f.length with hlt | hge
  · have hmem : f[k] ∈ f.drop n := List.mem_drop_iff_getElem.mpr ⟨k - n, by omega, by simp [Nat.add_sub_cancel' hk]⟩
    rw [List.getD_eq_getElem _ _ hlt]
    exact eq_of_beq (List.all_eq_true.mp h _ hmem)
  · exact List.getD_eq_default _ _ hge

/-- R80: the frame the encoder builds from a row matches the row, under every operand. -/
theorem matchesFrame_encodeFrame (hr : r ∈ frameRows c) (a w : Word) :
    r.matchesFrame (encodeFrame c (r.op a w)) = true := by
  refine matchesFrame_iff.mpr ⟨?_, (Option.all_eq_true _ _).mpr fun p hp => beq_iff_eq.mpr ?_⟩
  · fin_cases hr <;> rfl
  · fin_cases hr <;> cases hp <;> rfl

/-- R73: the formats of a row: two bytes at most (WF1, WF2), a parameter at byte 2 (WF3), one operand (WF4), two
operands (WF5). -/
theorem row_format (hr : r ∈ frameRows c) (a w : Word) :
    (r.op a w).assigned ≤ 2 ∨ (r.param.isSome = true ∧ (r.op a w).assigned = 3) ∨ r.op a w = .read32 a ∨
      r.op a w = .write32 a w := by
  fin_cases hr <;> simp [FrameOp.assigned]

/-- R80: two frames that match one row have its bytes 0 and 1, and its parameter, in common. -/
theorem getD_eq_of_matchesFrame (hf : r.matchesFrame f = true) (hg : r.matchesFrame g = true) {k : Nat}
    (hk : k < 2 ∨ r.param.isSome = true ∧ k = 2) : f.getD k 0 = g.getD k 0 := by
  obtain ⟨headF, paramF⟩ := matchesFrame_iff.mp hf
  obtain ⟨headG, paramG⟩ := matchesFrame_iff.mp hg
  obtain ⟨h0, h1⟩ := Prod.mk.inj (headF.symm.trans headG)
  rcases hk with hk | ⟨hp, rfl⟩
  · interval_cases k
    · exact h0
    · exact h1
  · obtain ⟨p, hp⟩ := Option.isSome_iff_exists.mp hp
    rw [hp] at paramF paramG
    exact (eq_of_beq paramF).symm.trans (eq_of_beq paramG)

/-- R73, R80: a frame that matches a row has the assigned bytes of the frame the encoder builds from its operands. -/
theorem getD_eq_encodeFrame (hr : r ∈ frameRows c) (hm : r.matchesFrame f = true) {k : Nat}
    (hk : k < (r.op (le32 f 2) (le32 f 6)).assigned) :
    f.getD k 0 = (encodeFrame c (r.op (le32 f 2) (le32 f 6))).getD k 0 := by
  have hg := matchesFrame_encodeFrame hr (le32 f 2) (le32 f 6)
  rcases Nat.lt_or_ge k 2 with h2 | h2
  · exact getD_eq_of_matchesFrame hm hg (.inl h2)
  rcases row_format hr (le32 f 2) (le32 f 6) with hop | ⟨hparam, hop⟩ | hop | hop
  · omega
  · exact getD_eq_of_matchesFrame hm hg (.inr ⟨hparam, by omega⟩)
  · rw [hop] at hk ⊢
    exact getD_eq_of_le32_eq (le32_encodeFrame_read32 c _).symm h2 hk
  · rw [hop] at hk ⊢
    rcases Nat.lt_or_ge k 6 with h6 | h6
    · exact getD_eq_of_le32_eq (le32_encodeFrame_write32_addr c _ _).symm h2 h6
    · exact getD_eq_of_le32_eq (le32_encodeFrame_write32_word c _ _).symm h6 hk

theorem exists_row_of_decodeHead {op : FrameOp} (h : decodeHead c f = some op) :
    ∃ r ∈ frameRows c, r.matchesFrame f = true ∧ r.op (le32 f 2) (le32 f 6) = op := by
  obtain ⟨r, hfind, hop⟩ := Option.map_eq_some_iff.mp h
  exact ⟨r, List.mem_of_find?_eq_some hfind, List.find?_some (p := fun r : FrameRow => r.matchesFrame f) hfind, hop⟩

/-- R71, R72, R80: what the frame checker asks of a frame it accepts. -/
theorem decodeFrame_ok {op : FrameOp} : decodeFrame c f = .ok op →
    f.length = Config.frameLen ∧ decodeHead c f = some op ∧ (f.drop op.assigned).all (· == 0) = true := by
  fun_cases decodeFrame c f with
  | case1 => nofun
  | case2 hlen op' hhead hpad => rintro ⟨⟩; exact ⟨hlen, hhead, hpad⟩
  | case3 => nofun
  | case4 => nofun

/-- Settles O3: the frame checker undoes the encoder wherever the heads differ, as R8's defaults do. -/
theorem frameDecodeEncode : Obligations.FrameDecodeEncode :=
  ⟨by decide, fun _ op hc => decodeFrame_encodeFrame hc op⟩

/-- Settles O4: the two frames agree on the bytes the format assigns, and both are 0x00 after them. -/
theorem frameCheckerExact : Obligations.FrameCheckerExact := by
  intro c f op h
  obtain ⟨hlen, hhead, hpad⟩ := decodeFrame_ok h
  obtain ⟨r, hr, hm, rfl⟩ := exists_row_of_decodeHead hhead
  refine List.ext_getElem (hlen.trans (length_encodeFrame c _).symm) fun k hf hg => ?_
  rw [← List.getD_eq_getElem _ 0 hf, ← List.getD_eq_getElem _ 0 hg]
  rcases Nat.lt_or_ge k (r.op (le32 f 2) (le32 f 6)).assigned with hk | hk
  · exact getD_eq_encodeFrame hr hm hk
  · rw [getD_of_padding hpad hk, getD_of_padding (drop_assigned_encodeFrame c _) hk]

/-- Settles O5: the length, the padding and the places of the operands. -/
theorem frameLayout : Obligations.FrameLayout := fun c =>
  ⟨fun op => ⟨length_encodeFrame c op, fun _ hk => getD_of_padding (drop_assigned_encodeFrame c op) hk⟩,
    le32_encodeFrame_read32 c,
    fun a w => ⟨le32_encodeFrame_write32_addr c a w, le32_encodeFrame_write32_word c a w⟩⟩

/-- Settles O6: the decoders evaluated on R70's and R79's words. -/
theorem tableWordsDecode : Obligations.TableWordsDecode := by
  unfold Obligations.TableWordsDecode
  decide

end frames

section replies

variable {n i : Nat} {b : List Byte}

/-- R268: a byte received is read as it is. -/
theorem getD_filled_of_lt (n k : Nat) (h : i < b.length) : (filled n b k).getD i 0 = b.getD i 0 :=
  List.getD_append _ _ _ _ h

/-- Past the bytes received stand the free values, in their order. -/
theorem getD_filled_of_ge (k : Nat) (hb : b.length ≤ i) (hn : i < n) :
    (filled n b k).getD i 0 = Config.missingByte (k + (i - b.length)) := by
  rw [filled, List.getD_append_right _ _ _ _ hb, List.getD_eq_getElem _ _ (by simp; omega), List.getElem_map,
    List.getElem_range]

/-- Settles O10: a reply as long as its fields, the length, and the two ranges of bytes. -/
theorem replyFields : Obligations.ReplyFields := fun n b k =>
  ⟨filled_of_length k, filled_length n b k, fun _ hi => getD_filled_of_lt n k hi,
    fun _ hb hn => getD_filled_of_ge k hb hn⟩

end replies

end Sys2Proof
end

section
/-! PROOF of the family 41_codec.md. What each probe query does with the reply the transport gives it: VERSION (R104),
whose fields cut the version word without loss, and TARGET_VOLTAGE (R105, R106), whose two samples decide the outcome. -/

namespace Sys2Proof

/-- R104: major, jtag and swim, in that order, are the whole version word. -/
theorem versionFields_append (v : Half) : versionMajor v ++ versionJtag v ++ versionSwim v = v := by
  have upper : versionMajor v ++ versionJtag v = v.extractLsb' 6 10 :=
    BitVec.extractLsb'_append_extractLsb'_eq_extractLsb' rfl
  have whole : v.extractLsb' 6 10 ++ versionSwim v = v.extractLsb' 0 16 :=
    BitVec.extractLsb'_append_extractLsb'_eq_extractLsb' rfl
  rw [upper]
  exact whole.trans BitVec.extractLsb'_eq_self

/-- R106: VOLTAGE_SCALE is 12/5, so the volts are one exact quotient. -/
theorem voltageVolts_eq (reference measured : Int) :
    voltageVolts reference measured = 12 * (measured : Rat) / (5 * (reference : Rat)) := by
  rw [voltageVolts, Config.voltageScale, div_mul_eq_mul_div, div_div]

end Sys2Proof

namespace Sys2Proof.Machine

section probeQueries

variable {s : State} {b : List Byte}

/-- What taking the request wrote, the end of the operation writes again. -/
theorem answered_exchanged_begin (s : State) (f : Frame) (n : Nat) (b : List Byte) (r : Result) :
    ((begin s).exchanged f n b).answered r = (s.exchanged f n b).answered r := rfl

/-- R104: a VERSION the transport answers returns the version its reply carries. -/
theorem opVersion_answered (ho : s.session.isOpen = true) (h : Answers s 6 b) :
    opVersion s = .ok (versionOf b) (s.exchanged (encodeFrame s.cfg .version) 6 b) := by
  simp [opVersion, prologue_of_open ho, Config.respLenVersion, command_answered h]

/-- Settles O16: the reply's version, whose fields put together are the word of bytes 0 and 1. -/
theorem versionResult : Obligations.VersionResult := by
  intro s b0 b1 b ⟨hready, hopen⟩ hans
  refine ⟨versionOf (b0 :: b1 :: b), ?_, versionFields_append (b0 ++ b1), rfl⟩
  rw [exec_eq_perform, perform_ready _ _ hready, opBody, opVersion_answered (s := begin s) hopen hans,
    Res.value_ok, finish_ok, begin_cfg, answered_exchanged_begin]

/-- R105: a TARGET_VOLTAGE the transport answers, by the samples f it reads from the reply: a reference of 0 raises
before the quotient is formed. -/
theorem opTargetVoltage_of_fields {f : List Byte} {t : State} (ho : s.session.isOpen = true)
    (h : Answers s s.cfg.respLenVoltage b)
    (hf : fields 8 b (s.exchanged (encodeFrame s.cfg .targetVoltage) s.cfg.respLenVoltage b) = .ok f t) :
    opTargetVoltage s =
      if sle32 f 0 = 0 then .err (.measuredVoltageZero (sle32 f 4)) t
      else .ok ⟨sle32 f 0, sle32 f 4, 12 * (sle32 f 4 : Rat) / (5 * (sle32 f 0 : Rat))⟩ t := by
  rw [opTargetVoltage, prologue_of_open ho, Res.bind_ok, command_answered h, Res.bind_ok, hf, Res.bind_ok,
    ← voltageVolts_eq]

/-- Settles O17: the two outcomes, and a reply of 8 bytes or more is read as it is. -/
theorem targetVoltageResult : Obligations.TargetVoltageResult := by
  intro s b ⟨hready, hopen⟩ hans f t
  have hop := opTargetVoltage_of_fields (s := begin s) (f := f) hopen hans (fields_eq _ _ _)
  refine ⟨fun hzero => ?_, fun hne => ?_, fun hlen => ?_⟩
  · rw [exec_eq_perform, perform_ready _ _ hready, opBody, hop, if_pos hzero]
    rfl
  · rw [exec_eq_perform, perform_ready _ _ hready, opBody, hop, if_neg hne]
    rfl
  · have hb : 8 ≤ b.length := hlen.trans_eq (length_of_answers hans).symm
    exact ⟨filled_of_length _ hb, by simp [t, Nat.sub_eq_zero_of_le hb]⟩

end probeQueries

end Sys2Proof.Machine
end

section
/-! PROOF of the family 42_mode_session.md. What each operation of the controller does when the transport answers it,
SESSION_INIT cut at its second MODE (R132 to R135, R137); then what an opening can come to however the transport answers
(`Res.StaysOpening`, R136), and the mode a probe is left in that makes R131's transitions (`Probe`). -/

namespace Sys2Proof.Machine

section modeByte

/-- R78, R132: each known mode has its one byte. -/
theorem decodeMode_iff (x : Byte) : (decodeMode x = .dfu ↔ x = 0x00) ∧ (decodeMode x = .mass ↔ x = 0x01) ∧
    (decodeMode x = .debug ↔ x = 0x02) := by
  unfold decodeMode
  split_ifs with h0 h1 h2
  · subst h0; decide
  · subst h1; decide
  · subst h2; decide
  · exact ⟨iff_of_false nofun h0, iff_of_false nofun h1, iff_of_false nofun h2⟩

variable {x : Byte}

theorem decodeMode_eq_dfu_iff : decodeMode x = .dfu ↔ x = 0x00 :=
  have ⟨dfu, _, _⟩ := decodeMode_iff x
  dfu

theorem decodeMode_eq_debug_iff : decodeMode x = .debug ↔ x = 0x02 :=
  have ⟨_, _, debug⟩ := decodeMode_iff x
  debug

end modeByte

section answered

variable {s : State} {b : List Byte}

/-- R132: a MODE the transport answers returns the mode of the byte it reads. -/
theorem opMode_answered (ho : s.session.isOpen = true) (h : Answers s s.cfg.respLenMode b) :
    opMode s = .ok (decodeMode ((filled 1 b s.drawn).getD 0 0))
      ((s.exchanged (encodeFrame s.cfg .mode) s.cfg.respLenMode b).setDrawn (s.drawn + (1 - b.length))) := by
  simp [opMode, prologue_of_open ho, command_answered h, fields_eq]

/-- R133, R303: a Send the transport takes, and no Recv. -/
theorem opExitDfu_answered (ho : s.session.isOpen = true) (h : Answers s 0 []) :
    opExitDfu s = .ok () (s.exchanged (encodeFrame s.cfg .exitDfu) 0 []) := by
  simp [opExitDfu, prologue_of_open ho, send_eq_transact, transact_answered _ h]

theorem opExitDfu_failed {e : Nat} {rest : List SendAnswer} (ho : s.session.isOpen = true)
    (h : s.sends = .fail e :: rest) :
    opExitDfu s = .err (.transportSend e) ((s.setSends rest).log
      (.send (outEp s.cfg s.session.variant) (encodeFrame s.cfg .exitDfu) (some (.fail e)))) := by
  simp [opExitDfu, prologue_of_open ho, send_failed _ h]

/-- R134: whatever reply the configured length asks for is discarded. -/
theorem opEnterSwd_answered (ho : s.session.isOpen = true) (h : Answers s s.cfg.respLenEnterSwd b) :
    opEnterSwd s = .ok () (s.exchanged (encodeFrame s.cfg .enterSwd) s.cfg.respLenEnterSwd b) := by
  simp [opEnterSwd, prologue_of_open ho, command_answered h]

/-- R160: the reply's first byte is the run state, returned and cached. -/
theorem opStatus_answered (ho : s.session.isOpen = true) (h : Answers s 2 b) :
    opStatus s = .ok (decodeRun (b.getD 0 0))
      ((s.exchanged (encodeFrame s.cfg .status) 2 b).setRun (decodeRun (b.getD 0 0))) := by
  simp [opStatus, prologue_of_open ho, Config.respLenStatus, command_answered h]

/-- Settles O11: the byte MODE reads names the mode, and a reply that holds the byte is read as it is. -/
theorem modeResult : Obligations.ModeResult := by
  intro s b ⟨hready, hopen⟩ hans x t
  refine ⟨⟨decodeMode x, ?_, decodeMode_iff x⟩, fun hlen => ?_⟩
  · rw [exec_eq_perform, perform_ready _ _ hready, opBody, opMode_answered (s := begin s) hopen hans]
    rfl
  · have hb : 1 ≤ b.length := hlen.trans_eq (length_of_answers hans).symm
    exact ⟨by simp only [x, filled_of_length _ hb], by simp [t, Nat.sub_eq_zero_of_le hb]⟩

/-- Settles O12: both operations answered; EXIT_DFU asks for no reply. -/
theorem fireAndForget : Obligations.FireAndForget := by
  intro s ⟨hready, hopen⟩ hsend
  refine ⟨⟨?_, rfl⟩, fun b hans => ?_⟩
  · rw [exec_eq_perform, perform_ready _ _ hready, opBody, opExitDfu_answered (s := begin s) hopen ⟨hsend, rfl⟩]
    rfl
  · rw [exec_eq_perform, perform_ready _ _ hready, opBody, opEnterSwd_answered (s := begin s) hopen hans]
    rfl

/-- R137: CLOSE of a closed session does nothing. -/
theorem opClose_of_closed (h : s.session.isOpen = false) : opClose s = .ok () s := by
  simp [opClose, h]

/-- Settles O15: the two branches of CLOSE. -/
theorem closeEndsSession : Obligations.CloseEndsSession := by
  intro s hready
  refine ⟨fun hopen => ?_, fun hclosed => ?_⟩
  · rw [exec_eq_perform, perform_ready _ _ hready, opBody, opClose_of_open (s := begin s) hopen]
    rfl
  · rw [exec_eq_perform, perform_ready _ _ hready, opBody, opClose_of_closed (s := begin s) hclosed]
    rfl

end answered

section sessionInit

variable {s : State} {b1 b2 b3 be : List Byte}

theorem exchangedAll_setDrawn (s : State) (l : List Exchange) (k : Nat) :
    (s.setDrawn k).exchangedAll l = (s.exchangedAll l).setDrawn k := by
  induction l generalizing s with
  | nil => rfl
  | cons x xs ih => exact ih (s.exchanged x.1 x.2.1 x.2.2)

/-- R135: SESSION_INIT from its second MODE on. -/
def sessionInitTail (s : State) : Res Unit :=
  (opMode (s.setSeq 3)).bind fun m2 s =>
  (if m2 = .debug then .ok () (s.setSeq 4) else opEnterSwd (s.setSeq 4)).bind fun _ s =>
  (opStatus (s.setSeq 5)).bind fun _ s =>
  .ok () (s.setSeq 0)

theorem opSessionInit_eq (s : State) : opSessionInit s =
    (prologue s).bind fun _ s =>
    (opMode (s.setSeq 1)).bind fun m1 s =>
    (if m1 = .dfu then (opExitDfu (s.setSeq 2)).attempt else .ok none (s.setSeq 2)).bind fun _ s =>
    sessionInitTail s := rfl

/-- R135: the commands of `sessionInitTail`, by the byte m2 its MODE reads. -/
def tailExchanges (s : State) (m2 : Byte) (b2 be b3 : List Byte) : List Exchange :=
  [served s .mode b2] ++ (if m2 = 0x02 then [] else [served s .enterSwd be]) ++ [served s .status b3]

/-- R41: a command's exchange looks at the configuration alone. -/
theorem served_of_cfg {s0 : State} (hc : s.cfg = s0.cfg) (op : FrameOp) (b : List Byte) :
    served s op b = served s0 op b := by
  rw [served, hc, served]

/-- R135: ENTER_SWD runs only if the second mode was not Debug. -/
theorem sessionInitTail_answered {s0 : State} {d : Nat} (ho : s.session.isOpen = true) (hc : s.cfg = s0.cfg)
    (hd : s.drawn = d) (h : AnswersAll s (tailExchanges s0 ((filled 1 b2 d).getD 0 0) b2 be b3)) :
    sessionInitTail s = .ok () ((((s.exchangedAll (tailExchanges s0 ((filled 1 b2 d).getD 0 0) b2 be b3)).setRun
      (decodeRun (b3.getD 0 0))).setDrawn (d + (1 - b2.length))).setSeq 0) := by
  subst hd
  simp only [tailExchanges, ← served_of_cfg hc] at h ⊢
  by_cases hm : (filled 1 b2 s.drawn).getD 0 0 = 0x02
  · rw [if_pos hm] at h ⊢
    obtain ⟨hmode, hstatus, _⟩ := h
    rw [sessionInitTail, opMode_answered (s := s.setSeq 3) ho hmode, Res.bind_ok, State.setSeq_drawn,
      if_pos (decodeMode_eq_debug_iff.mpr hm), Res.bind_ok, opStatus_answered (b := b3)]
    · rfl
    · exact ho
    · exact hstatus
  · rw [if_neg hm] at h ⊢
    obtain ⟨hmode, hswd, hstatus, _⟩ := h
    rw [sessionInitTail, opMode_answered (s := s.setSeq 3) ho hmode, Res.bind_ok, State.setSeq_drawn,
      if_neg (mt decodeMode_eq_debug_iff.mp hm), opEnterSwd_answered (b := be), Res.bind_ok,
      opStatus_answered (b := b3)]
    · rfl
    · exact ho
    · exact hstatus
    · exact ho
    · exact hswd

/-- R135: the EXIT_DFU of SESSION_INIT, by the byte m1 its first MODE reads. -/
def exitDfuExchanges (s : State) (m1 : Byte) : List Exchange := if m1 = 0x00 then [served s .exitDfu []] else []

/-- R135: EXIT_DFU runs only if the first mode was DFU. -/
theorem exitDfuStep_answered {s0 : State} {m1 : Byte} (ho : s.session.isOpen = true) (hc : s.cfg = s0.cfg)
    (h : AnswersAll s (exitDfuExchanges s0 m1)) :
    (if decodeMode m1 = .dfu then (opExitDfu (s.setSeq 2)).attempt else .ok none (s.setSeq 2)) =
      .ok none ((s.exchangedAll (exitDfuExchanges s0 m1)).setSeq 2) := by
  simp only [exitDfuExchanges, ← served_of_cfg hc] at h ⊢
  by_cases hm : m1 = 0x00
  · rw [if_pos hm] at h ⊢
    rw [if_pos (decodeMode_eq_dfu_iff.mpr hm), opExitDfu_answered (s := s.setSeq 2) ho h.1]
    rfl
  · rw [if_neg hm, if_neg (mt decodeMode_eq_dfu_iff.mp hm)]
    rfl

/-- R135: the commands of SESSION_INIT, by the bytes m1 and m2 its MODEs read. -/
def initExchanges (s : State) (m1 m2 : Byte) (b1 b2 be b3 : List Byte) : List Exchange :=
  [served s .mode b1] ++ (exitDfuExchanges s m1 ++ tailExchanges s m2 b2 be b3)

/-- What the steps of SESSION_INIT wrote to S.seq and to the count of free values, its end writes again. -/
theorem setSeq_overwrites (s : State) (d d' : Nat) (r : RunState) :
    (((((s.setDrawn d).setSeq 1).setSeq 2).setRun r).setDrawn d').setSeq 0 =
      ((s.setRun r).setDrawn d').setSeq 0 := rfl

/-- R135: SESSION_INIT with every command answered. -/
theorem opSessionInit_answered {m1 m2 : Byte} (ho : s.session.isOpen = true)
    (hm1 : (filled 1 b1 s.drawn).getD 0 0 = m1) (hm2 : (filled 1 b2 (s.drawn + (1 - b1.length))).getD 0 0 = m2)
    (h : AnswersAll s (initExchanges s m1 m2 b1 b2 be b3)) :
    opSessionInit s = .ok () ((((s.exchangedAll (initExchanges s m1 m2 b1 b2 be b3)).setRun
      (decodeRun (b3.getD 0 0))).setDrawn (s.drawn + (1 - b1.length) + (1 - b2.length))).setSeq 0) := by
  obtain ⟨⟨hans, _⟩, hrest⟩ := (answersAll_append ..).mp h
  obtain ⟨hexit, htail⟩ := (answersAll_append ..).mp hrest
  let d := s.drawn + (1 - b1.length)
  let u := ((s.exchangedAll [served s .mode b1]).setDrawn d).setSeq 1
  let v := (s.exchangedAll [served s .mode b1]).exchangedAll (exitDfuExchanges s m1)
  have mode1 : opMode (s.setSeq 1) = .ok (decodeMode m1) u := hm1 ▸ opMode_answered (s := s.setSeq 1) ho hans
  have exitDfu := exitDfuStep_answered (s := u) (s0 := s) ho rfl
    (answersAll_of_ports (s := s.exchangedAll _) rfl rfl hexit)
  have between : (u.exchangedAll (exitDfuExchanges s m1)).setSeq 2 = ((v.setDrawn d).setSeq 1).setSeq 2 := by
    simp only [u, v, exchangedAll_setSeq, exchangedAll_setDrawn]
  have tail := sessionInitTail_answered (s := ((v.setDrawn d).setSeq 1).setSeq 2) (s0 := s) (d := d)
    (by simpa [v] using ho) (by simp [v]) rfl (answersAll_of_ports (s := v) rfl rfl (hm2.symm ▸ htail))
  rw [opSessionInit_eq, prologue_of_open ho, Res.bind_ok, mode1, Res.bind_ok, exitDfu, Res.bind_ok, between, tail, hm2]
  simp only [initExchanges, exchangedAll_append, exchangedAll_setSeq, exchangedAll_setDrawn, setSeq_overwrites, v]
  rfl

/-- What taking the request wrote, the end of SESSION_INIT writes again. -/
theorem answered_overwrites (s : State) (r : RunState) (d : Nat) (x : Result) :
    ((((begin s).setRun r).setDrawn d).setSeq 0).answered x = ((s.setRun r).setDrawn d).answered x := rfl

/-- Settles O13: the body of SESSION_INIT, its five steps associated as in the statement. -/
theorem sessionInitCompletes : Obligations.SessionInitCompletes := by
  intro s b1 b2 b3 be m1 m2 ex drawn ⟨hready, hopen⟩ hans
  have hex : ex = initExchanges (begin s) m1 m2 b1 b2 be b3 := by
    simp only [ex, initExchanges, exitDfuExchanges, tailExchanges, List.append_assoc]
    rfl
  have hbegin : AnswersAll (begin s) (initExchanges (begin s) m1 m2 b1 b2 be b3) :=
    answersAll_of_ports (s := s) rfl rfl (hex ▸ hans)
  rw [exec_eq_perform, perform_ready _ _ hready, opBody,
    opSessionInit_answered (s := begin s) (m1 := m1) (m2 := m2) hopen rfl rfl hbegin, ← hex, exchangedAll_begin,
    Res.value_ok, finish_ok, begin_drawn, answered_overwrites]

/-- R13: a Send taken and, where n bytes are asked, a Recv of n bytes are an answered command, and leave the answers
behind them. -/
theorem answers_of_reply {n : Nat} {b : List Byte} {ss : List SendAnswer} {rs : List RecvAnswer}
    (hs : s.sends = .ok :: ss) (hr : s.recvs = (if n = 0 then [] else [.ok b]) ++ rs) (hb : b.length = n) (f : Frame) :
    Answers s n b ∧ (s.exchanged f n b).sends = ss ∧ (s.exchanged f n b).recvs = rs := by
  refine ⟨⟨by rw [hs]; rfl, ?_⟩, by rw [State.exchanged_sends, hs]; rfl, ?_⟩
  · split_ifs at hr ⊢ with hn
    · exact List.eq_nil_of_length_eq_zero (hb.trans hn)
    · exact ⟨by rw [hr]; rfl, hb⟩
  · rw [State.exchanged_recvs, hr]
    split_ifs <;> rfl

/-- R135: the state SESSION_INIT goes on in, to its second MODE, after a failed Send of EXIT_DFU. -/
def exitDfuFailed (s : State) (b1 : List Byte) (e : Nat) (rest : List SendAnswer) : State :=
  (((((s.exchangedAll [served s .mode b1]).setSends rest).log (.send (outEp s.cfg s.session.variant)
    (encodeFrame s.cfg .exitDfu) (some (.fail e)))).setDrawn (s.drawn + (1 - b1.length))).setSeq 2)

/-- R135, 90 C3: the error of EXIT_DFU is caught. -/
theorem opSessionInit_exitDfu_failed {e : Nat} {rest : List SendAnswer} (ho : s.session.isOpen = true)
    (hans : Answers s s.cfg.respLenMode b1) (hm1 : (filled 1 b1 s.drawn).getD 0 0 = 0x00)
    (hsends : s.sends.tail = .fail e :: rest) :
    opSessionInit s = sessionInitTail (exitDfuFailed s b1 e rest) := by
  rw [opSessionInit_eq, prologue_of_open ho, Res.bind_ok, opMode_answered (s := s.setSeq 1) ho hans, Res.bind_ok,
    State.setSeq_drawn, if_pos (decodeMode_eq_dfu_iff.mpr hm1), opExitDfu_failed (e := e) (rest := rest)]
  · rfl
  · exact ho
  · exact hsends

theorem framesOf_exchangeEvents (s : State) (f : Frame) (n : Nat) (b : List Byte) :
    framesOf (exchangeEvents s f n b) = [f] := by
  unfold exchangeEvents
  split_ifs <;> rfl

/-- R13: served commands offer their frames in order. -/
theorem Since.exchangedAll {s0 : State} {fs : List Frame} (h : Since s0 fs s) (l : List Exchange) :
    Since s0 (fs ++ l.map Prod.fst) (s.exchangedAll l) := by
  induction l generalizing s fs with
  | nil => simpa [State.exchangedAll] using h
  | cons x l ih =>
    obtain ⟨f, n, b⟩ := x
    obtain ⟨evs, htrace, hfs⟩ := h.frames
    have hstep : Since s0 (fs ++ [f]) (s.exchanged f n b) := by
      refine ⟨h.cfg, h.isOpen, evs ++ exchangeEvents s f n b, ?_, ?_⟩
      · rw [State.exchanged_trace, htrace, List.append_assoc]
      · rw [framesOf_append, hfs, framesOf_exchangeEvents]
    have hall := ih hstep
    rw [List.append_assoc] at hall
    exact hall

/-- The frames offered up to the second MODE, where the Send of EXIT_DFU failed. -/
theorem Since.exitDfuFailed {s0 : State} {fs : List Frame} (h : Since s0 fs s) (b1 : List Byte) (e : Nat)
    (rest : List SendAnswer) :
    Since s0 (fs ++ [encodeFrame s.cfg .mode] ++ [encodeFrame s0.cfg .exitDfu]) (exitDfuFailed s b1 e rest) :=
  (((h.exchangedAll [served s .mode b1]).transacted (op := .exitDfu)
    (.sent (answered := False) rest (a := some (.fail e)) False.elim)).setDrawn _).setSeq 2

/-- Settles O14: EXIT_DFU fails after the first MODE, and the rest of SESSION_INIT is answered. -/
theorem sessionInitIgnoresExitDfuError : Obligations.SessionInitIgnoresExitDfuError := by
  intro s b1 b2 b3 e ss rs reply ⟨hready, hopen⟩ hsends hrecvs h1 h2 h3 hm1 hm2
  let u := exitDfuFailed (begin s) b1 e (.ok :: .ok :: ss)
  obtain ⟨hmode1, hsends1, hrecvs1⟩ :=
    answers_of_reply hsends (hrecvs.trans (List.append_assoc ..)) h1 (encodeFrame s.cfg .mode)
  obtain ⟨hmode2, hsends2, hrecvs2⟩ := answers_of_reply (s := u) rfl hrecvs1 h2 (encodeFrame s.cfg .mode)
  have hstatus : Answers (u.exchanged (encodeFrame s.cfg .mode) s.cfg.respLenMode b2) 2 b3 :=
    ⟨by rw [hsends2]; rfl, by rw [hrecvs2]; exact ⟨rfl, h3⟩⟩
  have htail : tailExchanges s ((filled 1 b2 (s.drawn + (1 - b1.length))).getD 0 0) b2 [] b3 =
      [served s .mode b2, served s .status b3] := by
    rw [tailExchanges, if_pos hm2]
    rfl
  have htailAns : AnswersAll u (tailExchanges s ((filled 1 b2 (s.drawn + (1 - b1.length))).getD 0 0) b2 [] b3) := by
    rw [htail]
    exact ⟨hmode2, hstatus, trivial⟩
  have hbody := sessionInitTail_answered (s := u) (s0 := s) (d := s.drawn + (1 - b1.length)) hopen rfl rfl htailAns
  rw [htail] at hbody
  have hframes : Since s [encodeFrame s.cfg .mode, encodeFrame s.cfg .exitDfu, encodeFrame s.cfg .mode,
      encodeFrame s.cfg .status] (u.exchangedAll [served s .mode b2, served s .status b3]) :=
    ((since_begin hopen).exitDfuFailed b1 e (.ok :: .ok :: ss)).exchangedAll [served s .mode b2, served s .status b3]
  rw [exec_eq_perform, perform_ready _ _ hready, opBody,
    opSessionInit_exitDfu_failed (s := begin s) hopen hmode1 hm1 hsends1, hbody]
  exact ⟨_, rfl, rfl, rfl, hframes.newFrames_eq⟩

end sessionInit

section opening

/-- R262, R263: an error of the transport. -/
def Error.ofTransport (e : Error) : Prop := (∃ x, e = .transportSend x) ∨ ∃ x, e = .transportRecv x

/-- R290: a session in the middle of its opening. -/
structure Opening (s : State) : Prop where
  phase : s.phase = .opening
  isOpen : s.session.isOpen = true
  idle : s.inProgress = none

/-- A piece of the opening: however it comes out the session is still opening, and its error is the transport's. -/
def Res.StaysOpening {α : Type} (r : Res α) : Prop :=
  r.Sat (fun _ => Opening) (fun e t => Opening t ∧ e.ofTransport) Opening

variable {α : Type} {s : State}

theorem Opening.begin (h : Opening s) : Opening (begin s) := { h with }

theorem Opening.setSeq (h : Opening s) (k : Nat) : Opening (s.setSeq k) := { h with }

theorem Opening.setRun (h : Opening s) (r : RunState) : Opening (s.setRun r) := { h with }

theorem Opening.setDrawn (h : Opening s) (k : Nat) : Opening (s.setDrawn k) := { h with }

/-- R100: an opening session is open, so that the prologue lets it pass. -/
theorem prologue_bind_staysOpening {k : Unit → State → Res α} (h : Opening s) (hk : (k () s).StaysOpening) :
    ((prologue s).bind k).StaysOpening := by
  rw [prologue_of_open h.isOpen]
  exact hk

theorem Opening.transacted {f : Frame} {answered : Prop} {t : State} (h : Opening s)
    (ht : Transacted f answered s t) : Opening t where
  phase := ht.phase.trans h.phase
  isOpen := ht.session ▸ h.isOpen
  idle := ht.inProgress.trans h.idle

theorem transact_staysOpening (h : Opening s) (f : Frame) (n : Nat) : (transact f n s).StaysOpening := by
  have errors := transact_sat f n s
  have port := transact_transacted f n s
  cases e : transact f n s with
  | ok b t =>
    rw [e] at port
    exact h.transacted port
  | err x t =>
    rw [e] at port errors
    obtain ⟨_, transport⟩ := errors
    exact ⟨h.transacted port, transport⟩
  | blocked t =>
    rw [e] at port
    exact h.transacted port

theorem opMode_staysOpening (h : Opening s) : (opMode s).StaysOpening :=
  prologue_bind_staysOpening h (.bind (transact_staysOpening h _ _) fun _ _ ht => ht.setDrawn _)

theorem opExitDfu_staysOpening (h : Opening s) : (opExitDfu s).StaysOpening := by
  refine prologue_bind_staysOpening h ?_
  rw [send_eq_transact]
  exact .bind (transact_staysOpening h _ _) fun _ _ ht => ht

theorem opEnterSwd_staysOpening (h : Opening s) : (opEnterSwd s).StaysOpening :=
  prologue_bind_staysOpening h (.bind (transact_staysOpening h _ _) fun _ _ ht => ht)

theorem opStatus_staysOpening (h : Opening s) : (opStatus s).StaysOpening :=
  prologue_bind_staysOpening h (.bind (transact_staysOpening h _ _) fun _ _ ht => ht.setRun _)

/-- R135: the error of EXIT_DFU, which is caught, is the one that may not end the sequence. -/
theorem opSessionInit_staysOpening (h : Opening s) : (opSessionInit s).StaysOpening := by
  refine prologue_bind_staysOpening h (.bind (opMode_staysOpening (h.setSeq 1)) fun m1 s1 h1 => ?_)
  refine Res.Sat.bind (Q := fun _ => Opening) ?exitDfu fun _ s2 h2 => ?_
  case exitDfu =>
    split
    · exact Res.Sat.attempt ((opExitDfu_staysOpening (h1.setSeq 2)).mono (fun _ _ => id) (fun _ _ ht => ht.1)
        fun _ => id)
    · exact h1.setSeq 2
  refine .bind (opMode_staysOpening (h2.setSeq 3)) fun m2 s3 h3 => ?_
  refine Res.Sat.bind (Q := fun _ => Opening) ?enterSwd fun _ s4 h4 => ?_
  case enterSwd =>
    split
    · exact h3.setSeq 4
    · exact opEnterSwd_staysOpening (h3.setSeq 4)
  exact .bind (opStatus_staysOpening (h4.setSeq 5)) fun _ _ h5 => h5.setSeq 0

/-- R290, R294: the step of a session that is opening runs SESSION_INIT. -/
theorem step_opening {t : State} (hphase : s.phase = .opening) (h : step s = .next t) :
    t = finishOpening (opSessionInit (begin s)) := by
  obtain ⟨_, ⟨_, ht⟩ | ⟨hne, _⟩ | ⟨hne, _⟩⟩ := step_next h
  · exact ht
  · exact absurd hphase hne
  · exact absurd hphase hne

/-- Settles O53: the three ways SESSION_INIT comes out, each as `finishOpening` ends it. -/
theorem openingOutcomes : Obligations.OpeningOutcomes := by
  intro s t ⟨hready, hopen⟩ hphase hstep
  have hinit := opSessionInit_staysOpening (Opening.begin ⟨hphase, hopen, hready⟩)
  obtain rfl := step_opening hphase hstep
  cases e : opSessionInit (begin s) with
  | ok v u =>
    rw [e] at hinit
    exact .inl ⟨rfl, hinit.idle, hinit.isOpen, rfl⟩
  | err x u =>
    rw [e] at hinit
    obtain ⟨hu, ⟨y, rfl⟩ | ⟨y, rfl⟩⟩ := hinit
    · exact .inr (.inl ⟨rfl, hu.idle, rfl, rfl, List.getLast?_concat, .inl ⟨y, rfl⟩⟩)
    · exact .inr (.inl ⟨rfl, hu.idle, rfl, rfl, List.getLast?_concat, .inr ⟨y, rfl⟩⟩)
  | blocked u =>
    rw [e] at hinit
    exact .inr (.inr ⟨hinit.phase, rfl, hinit.isOpen⟩)

end opening

section probe

variable {c : Config} {p p' : Mode}

theorem modeRuns_append {l r : List (Frame × Delivery)} :
    modeRuns c p (l ++ r) p' ↔ ∃ p1, modeRuns c p l p1 ∧ modeRuns c p1 r p' := by
  induction l generalizing p with
  | nil => simp [modeRuns]
  | cons x l ih =>
    obtain ⟨f, d⟩ := x
    simp only [List.cons_append, modeRuns, ih]
    constructor
    · rintro ⟨p1, hserves, p2, hl, hr⟩
      exact ⟨p2, ⟨p1, hserves, hl⟩, hr⟩
    · rintro ⟨p2, ⟨p1, hserves, hl⟩, hr⟩
      exact ⟨p1, hserves, p2, hl, hr⟩

/-- The probe goes on from the mode it had. -/
theorem modeObeys_append {l r : List Event} (hr : ∀ ep n a rest, r ≠ .recv ep n a :: rest) :
    ModeObeys c p (l ++ r) p' ↔ ∃ p1, ModeObeys c p l p1 ∧ ModeObeys c p1 r p' := by
  rw [ModeObeys, exchanges_append l r hr, modeRuns_append]
  rfl

/-- How far the frame of an answered command got. -/
def answeredDelivery (n : Nat) (b : List Byte) : Delivery := if n = 0 then .delivered else .replied b

theorem answeredDelivery_ne_unsure (n : Nat) (b : List Byte) : answeredDelivery n b ≠ .unsure := by
  unfold answeredDelivery
  split_ifs <;> nofun

theorem exchanges_answered (s : State) (f : Frame) {n : Nat} {b : List Byte} (hb : b.length = n) :
    exchanges (exchangeEvents s f n b) = [(f, answeredDelivery n b)] := by
  unfold answeredDelivery
  split_ifs with hn
  · simp [exchangeEvents, hn, exchanges]
  · exact exchanges_exchangeEvents s f hn hb

/-- R131: an ENTER_SWD that the probe received leaves it in Debug mode. -/
theorem modeServes_enterSwd (hc : c.framesDistinct = true) {d : Delivery} (hd : d ≠ .unsure)
    (h : modeServes c p (encodeFrame c .enterSwd) d p') : p' = .debug := by
  unfold modeServes at h
  rw [decodeFrame_encodeFrame hc] at h
  cases d with
  | replied b => exact h
  | delivered => exact h
  | unsure => exact absurd rfl hd

/-- R131: STATUS leaves the mode as it was. -/
theorem modeServes_status (hc : c.framesDistinct = true) {d : Delivery}
    (h : modeServes c p (encodeFrame c .status) d p') : p' = p := by
  unfold modeServes at h
  rw [decodeFrame_encodeFrame hc] at h
  cases d with
  | replied b => exact h
  | delivered => exact h
  | unsure => exact h.elim id id

/-- R130, R131: a MODE reply of a byte or more names the mode, and leaves it as it was. -/
theorem modeServes_mode (hc : c.framesDistinct = true) {b : List Byte} (hb : 1 ≤ b.length)
    (h : modeServes c p (encodeFrame c .mode) (.replied b) p') : p' = decodeMode (b.getD 0 0) := by
  unfold modeServes at h
  rw [decodeFrame_encodeFrame hc] at h
  obtain ⟨hkeep, hsays⟩ := h
  exact hkeep.trans (hsays (List.ne_nil_of_length_pos hb)).symm

/-- In the middle of an opening that started in s0: a probe that makes R131's transitions, and whose mode was p
then, is now in a mode of P. -/
structure Probe (s0 : State) (p : Mode) (P : Mode → Prop) (t : State) : Prop where
  cfg : t.cfg = s0.cfg
  mode : ∃ evs, t.trace = s0.trace ++ evs ∧ ∀ p', ModeObeys s0.cfg p evs p' → P p'

variable {α : Type} {s0 s : State} {P Q : Mode → Prop}

/-- Of an operation's piece nothing is known but that it used the port. -/
theorem Framed.probe {held full : Prop} (h : Framed held full s0 s) (p : Mode) :
    Probe s0 p (fun _ => True) s := by
  obtain ⟨evs, hevs⟩ := h.trace
  exact ⟨h.cfg, evs, hevs.symm, fun _ _ => trivial⟩

theorem Probe.mono (h : Probe s0 p P s) (hPQ : ∀ m, P m → Q m) : Probe s0 p Q s where
  cfg := h.cfg
  mode := h.mode.imp fun _ ⟨htrace, hP⟩ => ⟨htrace, fun m hm => hPQ m (hP m hm)⟩

theorem Probe.setSeq (h : Probe s0 p P s) (k : Nat) : Probe s0 p P (s.setSeq k) := { h with }

theorem Probe.setRun (h : Probe s0 p P s) (r : RunState) : Probe s0 p P (s.setRun r) := { h with }

theorem Probe.setDrawn (h : Probe s0 p P s) (k : Nat) : Probe s0 p P (s.setDrawn k) := { h with }

/-- An answered command moves the mode on, as a probe that received its frame does. -/
theorem Probe.exchanged {f : Frame} {n : Nat} {b : List Byte} (h : Probe s0 p P s) (hb : b.length = n)
    (hPQ : ∀ x y, P x → modeServes s0.cfg x f (answeredDelivery n b) y → Q y) :
    Probe s0 p Q (s.exchanged f n b) := by
  obtain ⟨before, hbefore, hP⟩ := h.mode
  refine ⟨h.cfg, before ++ exchangeEvents s f n b, ?_, fun y hy => ?_⟩
  · rw [State.exchanged_trace, hbefore, List.append_assoc]
  · obtain ⟨x, hx, hxy⟩ := (modeObeys_append fun _ _ _ _ h => by cases h).mp hy
    rw [ModeObeys, exchanges_answered s f hb] at hxy
    obtain ⟨y', hserves, rfl⟩ := hxy
    exact hPQ x _ (hP x hx) hserves

/-- What holds of a piece of the opening if it comes out with a value. -/
def Res.Gives (r : Res α) (P : α → State → Prop) : Prop := r.Sat P (fun _ _ => True) fun _ => True

theorem Res.Keeps.gives {r : Res α} (hr : r.Keeps False False s) (h : Framed False False s0 s) :
    r.Gives fun _ => Framed False False s0 :=
  (hr.after h).mono (fun _ _ => id) (fun _ _ _ => trivial) fun _ _ => trivial

theorem prologue_bind_gives {k : Unit → State → Res α} {R : α → State → Prop} (hk : (k () s).Gives R) :
    ((prologue s).bind k).Gives R :=
  prologue_bind_sat (I := fun _ => True) trivial hk

theorem command_gives {op : FrameOp} {n : Nat} {R : List Byte → Mode → Prop} (h : Probe s0 p P s)
    (hR : ∀ b x y, b.length = n → P x →
      modeServes s0.cfg x (encodeFrame s0.cfg op) (answeredDelivery n b) y → R b y) :
    (command op n s).Gives fun b => Probe s0 p (R b) := by
  rw [command]
  cases e : transact (encodeFrame s.cfg op) n s with
  | ok b u =>
    obtain ⟨hans, rfl⟩ := transact_ok e
    have hb := length_of_answers hans
    exact h.exchanged hb fun x y hx hxy => hR b x y hb hx (h.cfg ▸ hxy)
  | err x u => exact trivial
  | blocked u => exact trivial

variable (hc : s0.cfg.framesDistinct = true)
include hc

theorem opMode_gives (h : Probe s0 p P s) (hlen : 1 ≤ s0.cfg.respLenMode) :
    (opMode s).Gives fun m => Probe s0 p (· = m) := by
  refine prologue_bind_gives (.bind (command_gives
    (R := fun b m => ∀ k, m = decodeMode ((filled 1 b k).getD 0 0)) h fun b x y hb _ hxy k => ?reply)
    fun b t ht => (ht.mono fun m hm => hm t.drawn).setDrawn _)
  case reply =>
    have hn : 1 ≤ s.cfg.respLenMode := h.cfg ▸ hlen
    have hb1 : 1 ≤ b.length := hn.trans_eq hb.symm
    rw [answeredDelivery, if_neg (Nat.ne_of_gt hn)] at hxy
    rw [filled_of_length k hb1]
    exact modeServes_mode hc hb1 hxy

theorem opEnterSwd_gives (h : Probe s0 p P s) : (opEnterSwd s).Gives fun _ => Probe s0 p (· = .debug) :=
  prologue_bind_gives (.bind (command_gives h fun b _ _ _ _ hxy =>
    modeServes_enterSwd hc (answeredDelivery_ne_unsure _ b) hxy) fun _ _ ht => ht)

theorem opStatus_gives (h : Probe s0 p P s) : (opStatus s).Gives fun _ => Probe s0 p P :=
  prologue_bind_gives (.bind (command_gives h fun _ _ _ _ hx hxy =>
    (modeServes_status hc hxy).symm ▸ hx) fun _ _ ht => ht.setRun _)

/-- R135: where the second MODE does not find the probe in Debug mode, ENTER_SWD puts it there. -/
theorem sessionInitTail_gives (h : Probe s0 p P s) (hlen : 1 ≤ s0.cfg.respLenMode) :
    (sessionInitTail s).Gives fun _ => Probe s0 p (· = .debug) := by
  refine .bind (opMode_gives hc (h.setSeq 3) hlen) fun m2 s3 h3 => ?_
  refine Res.Sat.bind (Q := fun _ => Probe s0 p (· = .debug)) ?enterSwd fun _ s4 h4 =>
    .bind (opStatus_gives hc (h4.setSeq 5)) fun _ _ h5 => h5.setSeq 0
  split
  · next hm => exact hm ▸ h3.setSeq 4
  · exact opEnterSwd_gives hc (h3.setSeq 4)

/-- R135: whatever became of the probe in the first two steps, the second MODE tells its mode. -/
theorem opSessionInit_gives (h : Framed False False s0 s) (hlen : 1 ≤ s0.cfg.respLenMode) :
    (opSessionInit s).Gives fun _ => Probe s0 p (· = .debug) := by
  rw [opSessionInit_eq]
  refine prologue_bind_gives (.bind ((opMode_keeps False.elim).gives (h.trans (.setSeq s 1))) fun m1 s1 h1 =>
    .bind (Res.Keeps.gives (.ite ?exitDfu (.ok _ (.setSeq s1 2))) h1) fun _ s2 h2 =>
    sessionInitTail_gives hc (h2.probe p) hlen)
  case exitDfu => exact .after (.setSeq s1 2) (opExitDfu_keeps _).attempt

omit hc

/-- Settles O54: an opening that is handed to the host ended SESSION_INIT with Ok. -/
theorem openedProbeIsInDebug : Obligations.OpenedProbeIsInDebug := by
  intro s t p p' hidle hphase hc hlen hstep hready hobeys
  obtain rfl := step_opening hphase hstep
  have hgives := opSessionInit_gives (p := p) hc (.begin s) hlen
  have hkeeps : (opSessionInit (begin s)).Keeps False False (begin s) := opSessionInit_keeps False.elim
  cases e : opSessionInit (begin s) with
  | ok v u =>
    rw [e] at hgives hobeys
    obtain ⟨evs, htrace, hdebug⟩ := hgives.mode
    have hevs : newEvents s (finishOpening (.ok v u)) = evs := by
      rw [newEvents, show (finishOpening (.ok v u)).trace = s.trace ++ evs from htrace, List.drop_left]
    exact hdebug p' (hevs ▸ hobeys)
  | err x u =>
    rw [e] at hready
    cases hready
  | blocked u =>
    rw [e] at hready hkeeps
    have hu : u.phase = .opening := (Framed.phase hkeeps).trans hphase
    cases hu.symm.trans hready

end probe

end Sys2Proof.Machine
end

section
/-! PROOF of the family 43_debug_access.md. First what each operation does when the transport answers it (R160 to R179);
then the frames of a WRITE32 that ends, however the transport answers (R172), and the record an error leaves
(`Recorded`, R169, R272); last the exact end of WRITE32 and CORE_RESET_HALT where a command fails: `CommandAnswer` is
what the transport makes of one command, `Stage` where an operation stands, `Res.EndsAs` the error a piece of it
raises (R174, R179). -/

namespace Sys2Proof.Machine

section answered

variable {s : State} {b : List Byte}

/-- R26, R28: an operation that may run is its body, begun and brought to its end. -/
theorem exec_of_ready (i : Instr) (h : Ready s) : exec i s = .next (finish i (opBody i (begin s))) := by
  rw [exec_eq_perform, perform_ready _ _ h]

/-- R78, R160: each known run state has its one byte. -/
theorem decodeRun_iff (x : Byte) :
    (decodeRun x = .running ↔ x = 0x80) ∧ (decodeRun x = .halted ↔ x = 0x81) := by
  unfold decodeRun
  split_ifs with h0 h1
  · subst h0; decide
  · subst h1; decide
  · exact ⟨iff_of_false nofun h0, iff_of_false nofun h1⟩

/-- Settles O18: the reply's first byte, read by R78's table. -/
theorem statusResult : Obligations.StatusResult := by
  intro s b ⟨hready, hopen⟩ hans
  refine ⟨decodeRun (b.getD 0 0), ?_, decodeRun_iff _⟩
  rw [exec_of_ready _ hready, opBody, opStatus_answered (s := begin s) hopen hans]
  rfl

/-- R102, R168: an operation that is an acknowledged command and nothing else. -/
theorem exec_ackCommand_answered {i : Instr} {op : FrameOp} {n : Nat} {r : RunState} (h : OpenReady s)
    (hbody : opBody i (begin s) = (ackCommand op n r (begin s)).value fun _ => .unit) (hans : Answers s n b) :
    exec i s = .next (((s.exchanged (encodeFrame s.cfg op) n b).setRun r).answered (.ok .unit)) := by
  obtain ⟨hready, hopen⟩ := h
  rw [exec_of_ready _ hready, hbody, ackCommand_answered (s := begin s) r hopen hans]
  rfl

/-- Settles O19: six acknowledged commands, each with its frame and the run state it leaves. -/
theorem ackCommandResults : Obligations.AckCommandResults := by
  intro s b h
  refine ⟨fun hans => ⟨?_, ?_, ?_, ?_, ?_⟩, fun hans => ?_⟩
  all_goals exact exec_ackCommand_answered h rfl hans

/-- R167: a CORE_ID the transport answers returns the word of the bytes it reads. -/
theorem opCoreId_answered (ho : s.session.isOpen = true) (h : Answers s s.cfg.respLenCoreId b) :
    opCoreId s = .ok (le32 (filled 4 b s.drawn) 0)
      ((s.exchanged (encodeFrame s.cfg .coreId) s.cfg.respLenCoreId b).setDrawn (s.drawn + (4 - b.length))) := by
  simp [opCoreId, prologue_of_open ho, command_answered h, fields_eq]

/-- Settles O20: the word of the reply, and a reply of 4 bytes or more is read as it is. -/
theorem coreIdResult : Obligations.CoreIdResult := by
  intro s b ⟨hready, hopen⟩ hans f t
  refine ⟨?_, fun hlen => ?_⟩
  · rw [exec_of_ready _ hready, opBody, opCoreId_answered (s := begin s) hopen hans]
    rfl
  · have hb : 4 ≤ b.length := hlen.trans_eq (length_of_answers hans).symm
    exact ⟨filled_of_length _ hb, by simp [t, Nat.sub_eq_zero_of_le hb]⟩

/-- Settles O21: the one frame, and bytes 4 to 7 of its reply. -/
theorem read32Result : Obligations.Read32Result := by
  intro s a b ⟨hready, hopen⟩ hans
  rw [exec_of_ready _ hready, opBody, opRead32_answered (s := begin s) hopen hans]
  rfl

/-- Settles O26: every one of these masks keeps bits [15:0]. -/
theorem read16MaskUnobservable : Obligations.Read16MaskUnobservable := by
  intro a w half
  have keeps (mask : Word) (hm : mask.extractLsb' 0 16 = 0xFFFF) : halfOf mask a w = half := extractLsb'_and_mask hm _
  exact ⟨keeps _ (by decide), keeps _ (by decide), fun c hc => keeps _ (by simpa [Config.maskOk] using hc)⟩

/-- R175: a CPU_ID the transport answers caches the word it returns, whatever stood in the cache. -/
theorem opCpuId_answered (ho : s.session.isOpen = true) (h : Answers s 8 b) :
    opCpuId s = .ok (le32 b 4)
      (((s.exchanged (encodeFrame s.cfg (.read32 s.cfg.cpuidAddr)) 8 b).setSeq 1).setCpuid (le32 b 4)) := by
  simp [opCpuId, prologue_of_open ho, opRead32_answered (s := s.setSeq 1) ho h]

/-- Settles O27: the READ32 of the CPUID register, and the cache written with its word. -/
theorem cpuIdResult : Obligations.CpuIdResult := by
  intro s b ⟨hready, hopen⟩ hans
  rw [exec_of_ready _ hready, opBody, opCpuId_answered (s := begin s) hopen hans]
  rfl

end answered

section write32

variable {s : State} {a w : Word} {b : List Byte}

/-- R173: without the bracket, the write frame alone. -/
theorem opWrite32_of_not_running (ho : s.session.isOpen = true) (hr : s.session.run ≠ .running) :
    opWrite32 a w s = (writeStep a w (s.setSeq 2)).attempt.bind fun werr s => raiseIf werr (s.setSeq 0) := by
  simp [opWrite32, prologue_of_open ho, hr]

/-- R173: with the bracket, HALT, the write frame unless HALT failed, and RUN in any case. -/
theorem opWrite32_of_running (ho : s.session.isOpen = true) (hr : s.session.run = .running) :
    opWrite32 a w s =
      (opHalt (s.setSeq 1)).attempt.bind fun herr s =>
      (if herr = none then (writeStep a w (s.setSeq 2)).attempt else .ok none s).bind fun werr s =>
      (opRun (s.setSeq 3)).attempt.bind fun rerr s =>
      raiseIf (herr.or (werr.or rerr)) (s.setSeq 0) := by
  simp [opWrite32, prologue_of_open ho, hr]

theorem opHalt_answered (ho : s.session.isOpen = true) (h : Answers s 2 b) :
    opHalt s = .ok () ((s.exchanged (encodeFrame s.cfg .stepCore) 2 b).setRun .halted) :=
  ackCommand_answered .halted ho h

theorem opRun_answered (ho : s.session.isOpen = true) (h : Answers s 2 b) :
    opRun s = .ok () ((s.exchanged (encodeFrame s.cfg .run) 2 b).setRun .running) :=
  ackCommand_answered .running ho h

theorem writeStep_answered (h : Answers s 8 b) :
    writeStep a w s = .ok b (s.exchanged (encodeFrame s.cfg (.write32 a w)) 8 b) :=
  command_answered h

end write32

section completes

variable {s : State} {a w : Word} {bh bw br : List Byte}

/-- R173: the commands of a WRITE32 in a state, each with its reply. -/
def writeExchanges (s : State) (a w : Word) (bh bw br : List Byte) : List Exchange :=
  if s.session.run = .running then [served s .stepCore bh, served s (.write32 a w) bw, served s .run br]
  else [served s (.write32 a w) bw]

/-- The brackets look at the configuration and the cache alone. -/
theorem writeExchanges_congr {t : State} (hc : t.cfg = s.cfg) (hr : t.session.run = s.session.run) :
    writeExchanges t a w bh bw br = writeExchanges s a w bh bw br := by
  simp only [writeExchanges, served_of_cfg hc, hr]

theorem setRun_eq_self {r : RunState} (h : s.session.run = r) : s.setRun r = s := by
  subst h
  rfl

/-- R173: with every step answered the cache ends as it was: Running behind the bracket's RUN, else unwritten. -/
theorem opWrite32_answered (ho : s.session.isOpen = true) (h : AnswersAll s (writeExchanges s a w bh bw br)) :
    opWrite32 a w s = .ok () ((s.exchangedAll (writeExchanges s a w bh bw br)).setSeq 0) := by
  by_cases hr : s.session.run = .running
  · have hex : writeExchanges s a w bh bw br = _ := if_pos hr
    rw [hex] at h ⊢
    obtain ⟨hhalt, hwrite, hrun, _⟩ := h
    rw [opWrite32_of_running ho hr, opHalt_answered (b := bh), Res.attempt_ok, Res.bind_ok, if_pos rfl,
      writeStep_answered (b := bw), Res.attempt_ok, Res.bind_ok, opRun_answered (b := br), Res.attempt_ok, Res.bind_ok,
      ← setRun_eq_self (s := State.exchangedAll _ _) (r := .running) (by rw [exchangedAll_session, hr])]
    · rfl
    · exact ho
    · exact hrun
    · exact hwrite
    · exact ho
    · exact hhalt
  · have hex : writeExchanges s a w bh bw br = _ := if_neg hr
    rw [hex] at h ⊢
    rw [opWrite32_of_not_running ho hr, writeStep_answered (b := bw)]
    · rfl
    · exact h.1

/-- Settles O22: the body of WRITE32 with the cache not Running, and Running. -/
theorem write32Result : Obligations.Write32Result := by
  intro s a w bh bw br ⟨hready, hopen⟩
  have ends (l : List Exchange) (hl : writeExchanges s a w bh bw br = l) (hans : AnswersAll s l) :
      exec (.write32 a w) s = .next ((s.exchangedAll l).answered (.ok .unit)) := by
    subst hl
    have hbegin : AnswersAll (begin s) (writeExchanges (begin s) a w bh bw br) :=
      answersAll_of_ports (s := s) rfl rfl hans
    rw [exec_of_ready _ hready, opBody, opWrite32_answered (s := begin s) hopen hbegin, exchangedAll_begin]
    rfl
  exact ⟨fun hr hans => ends [served s (.write32 a w) bw] (if_neg hr) ⟨hans, trivial⟩, fun hr => ends _ (if_pos hr)⟩

/-- R179: the commands of CORE_RESET_HALT in a state, each with its reply. -/
def resetExchanges (s : State) (h1 h2 h3 w1 w2 w3 r1 r2 r3 v : List Byte) : List Exchange :=
  writeExchanges s s.cfg.dhcsrAddr s.cfg.dhcsrHaltWord h1 w1 r1 ++
    (writeExchanges s s.cfg.demcrAddr s.cfg.demcrHaltAfterResetWord h2 w2 r2 ++
      (writeExchanges s s.cfg.aircrAddr s.cfg.aircrResetWord h3 w3 r3 ++ [served s (.read32 s.cfg.aircrAddr) v]))

/-- An answered WRITE32 as a step of an operation that started in s0 and still has its configuration and its cache. -/
theorem opWrite32_step_answered {s0 : State} {k : Nat} (ho : s.session.isOpen = true) (hc : s.cfg = s0.cfg)
    (hr : s.session.run = s0.session.run) (h : AnswersAll s (writeExchanges s0 a w bh bw br)) :
    opWrite32 a w (s.setSeq k) = .ok () ((s.exchangedAll (writeExchanges s0 a w bh bw br)).setSeq 0) := by
  have hex : writeExchanges (s.setSeq k) a w bh bw br = writeExchanges s0 a w bh bw br := writeExchanges_congr hc hr
  rw [← hex] at h ⊢
  rw [opWrite32_answered (s := s.setSeq k) ho (answersAll_of_ports (s := s) rfl rfl h), exchangedAll_setSeq]
  rfl

theorem setSeq_setSeq (s : State) (j k : Nat) : (s.setSeq j).setSeq k = s.setSeq k := rfl

theorem setRun_setSeq (s : State) (r : RunState) (k : Nat) : (s.setRun r).setSeq k = (s.setSeq k).setRun r := rfl

/-- R179: each write leaves the cache to the next one as it found it; after the third it is Unknown. -/
theorem opCoreResetHalt_answered {h1 h2 h3 w1 w2 w3 r1 r2 r3 v : List Byte} (ho : s.session.isOpen = true)
    (h : AnswersAll s (resetExchanges s h1 h2 h3 w1 w2 w3 r1 r2 r3 v)) :
    opCoreResetHalt s =
      .ok () (((s.exchangedAll (resetExchanges s h1 h2 h3 w1 w2 w3 r1 r2 r3 v)).setRun .unknown).setSeq 0) := by
  obtain ⟨hd, h⟩ := (answersAll_append ..).mp h
  obtain ⟨hm, h⟩ := (answersAll_append ..).mp h
  obtain ⟨ha, hq, _⟩ := (answersAll_append ..).mp h
  let u1 := s.exchangedAll (writeExchanges s s.cfg.dhcsrAddr s.cfg.dhcsrHaltWord h1 w1 r1)
  let u2 := u1.exchangedAll (writeExchanges s s.cfg.demcrAddr s.cfg.demcrHaltAfterResetWord h2 w2 r2)
  let u3 := u2.exchangedAll (writeExchanges s s.cfg.aircrAddr s.cfg.aircrResetWord h3 w3 r3)
  have cfg1 : u1.cfg = s.cfg := exchangedAll_cfg ..
  have cfg2 : u2.cfg = s.cfg := (exchangedAll_cfg ..).trans cfg1
  have cfg3 : u3.cfg = s.cfg := (exchangedAll_cfg ..).trans cfg2
  have session1 : u1.session = s.session := exchangedAll_session ..
  have session2 : u2.session = s.session := (exchangedAll_session ..).trans session1
  have session3 : u3.session = s.session := (exchangedAll_session ..).trans session2
  have dhcsr : opWrite32 s.cfg.dhcsrAddr s.cfg.dhcsrHaltWord (s.setSeq 1) = .ok () (u1.setSeq 0) :=
    opWrite32_step_answered ho rfl rfl hd
  have demcr : opWrite32 s.cfg.demcrAddr s.cfg.demcrHaltAfterResetWord (u1.setSeq 2) = .ok () (u2.setSeq 0) :=
    opWrite32_step_answered (session1 ▸ ho) cfg1 (by rw [session1]) hm
  have aircr : opWrite32 s.cfg.aircrAddr s.cfg.aircrResetWord (u2.setSeq 3) = .ok () (u3.setSeq 0) :=
    opWrite32_step_answered (session2 ▸ ho) cfg2 (by rw [session2]) ha
  have readBack := opRead32_answered (s := (u3.setSeq 4).setRun .unknown) (b := v)
    (show u3.session.isOpen = true from session3 ▸ ho) hq s.cfg.aircrAddr
  simp only [opCoreResetHalt, resetWrite, prologue_of_open ho, dhcsr, demcr, aircr, setSeq_setSeq, setRun_setSeq,
    State.setSeq_cfg, State.setRun_cfg, cfg1, cfg2, cfg3, Res.bind_ok, Res.attempt_ok, raiseIf_none, readBack]
  simp only [resetExchanges, exchangedAll_append]
  rfl

/-- Settles O28: the body of CORE_RESET_HALT with the cache not Running, and Running. -/
theorem coreResetHaltCompletes : Obligations.CoreResetHaltCompletes := by
  intro s h1 h2 h3 w1 w2 w3 r1 r2 r3 v d m a q plain bracketed ⟨hready, hopen⟩
  have ends (l : List Exchange) (hl : resetExchanges s h1 h2 h3 w1 w2 w3 r1 r2 r3 v = l) (hans : AnswersAll s l) :
      exec .coreResetHalt s = .next (((s.exchangedAll l).setRun .unknown).answered (.ok .unit)) := by
    subst hl
    have hbegin : AnswersAll (begin s) (resetExchanges (begin s) h1 h2 h3 w1 w2 w3 r1 r2 r3 v) :=
      answersAll_of_ports (s := s) rfl rfl hans
    rw [exec_of_ready _ hready, opBody, opCoreResetHalt_answered (s := begin s) hopen hbegin, exchangedAll_begin]
    rfl
  refine ⟨fun hr => ends plain ?_, fun hr => ends bracketed ?_⟩
  · simp only [resetExchanges, writeExchanges, if_neg hr]
    rfl
  · simp only [resetExchanges, writeExchanges, if_pos hr]
    rfl

end completes

section ended

variable {i : Instr} {s t : State}

/-- R28: an operation no longer in progress after its step ended with a value or an error of its body. -/
theorem exec_ended (he : exec i s = .next t) (ht : t.inProgress = none) :
    (∃ v u, opBody i (begin s) = .ok v u ∧ t = u.answered (.ok v)) ∨
      ∃ e u, opBody i (begin s) = .err e u ∧ t = u.answered (.err e) := by
  obtain ⟨_, rfl⟩ := exec_next he
  cases h : opBody i (begin s) with
  | ok v u => exact .inl ⟨v, u, rfl, rfl⟩
  | err e u => exact .inr ⟨e, u, rfl, rfl⟩
  | blocked u =>
    rw [h] at ht
    cases ht

theorem stable_noResult {w : Writes} : Stable w (fun u => u.result = none) (fun u => u.result = none) where
  transacted h ht := ht.result.trans h
  stopped h ht := ht.result.trans h
  setSeq _ _ h := h
  setDrawn _ h := h
  setRun _ _ _ h := h
  setCpuid _ _ _ h := h
  closeTransport _ _ h := h

/-- R272: an error on the result port is the one the body raised; a blocked operation has no result (R300). -/
theorem exec_raised {e : Error} (he : exec i s = .next t) (ht : t.result = some (.err e)) :
    ∃ u, opBody i (begin s) = .err e u ∧ t = u.answered (.err e) := by
  obtain ⟨_, rfl⟩ := exec_next he
  have hbody := (stable_noResult (w := ⟨True, True, True⟩)).opBody_within (s := begin s) rfl i
    (fun _ => trivial) (fun _ => trivial) (fun _ => trivial)
  cases h : opBody i (begin s) with
  | ok v u =>
    rw [h] at ht
    cases ht
  | err x u =>
    rw [h] at ht
    cases ht
    exact ⟨u, rfl, rfl⟩
  | blocked u =>
    rw [h] at hbody ht
    cases hbody.symm.trans ht

end ended

section resumes

variable {s0 s t : State} {fs : List Frame} {a w : Word}

/-- R13: a command that ends, with a reply or an error, has offered its frame. -/
theorem Res.Offers.ended {α : Type} {r : Res α} {op : FrameOp} {k : Nat} (h : r.Offers s0 fs op k) :
    r.Within (Since s0 (fs ++ [encodeFrame s0.cfg op])) fun _ => True :=
  h.mono (fun _ _ => id) (fun _ _ => id) fun _ _ => trivial

/-- R172, R173: the frames of a bracketed WRITE32 that ends; a HALT that fails with herr leaves the write out. -/
def bracketFrames (c : Config) (a w : Word) (herr : Option Error) : List Frame :=
  encodeFrame c .stepCore :: (if herr = none then [encodeFrame c (.write32 a w)] else []) ++ [encodeFrame c .run]

/-- R172: RUN is offered whatever became of HALT and the write; a value means that none of the three failed. -/
theorem opWrite32_bracket_frames (h : Since s0 [] s) (hr : s.session.run = .running) :
    (opWrite32 a w s).Sat (fun _ => Since s0 (bracketFrames s0.cfg a w none))
      (fun _ t => ∃ herr, Since s0 (bracketFrames s0.cfg a w herr) t) (fun _ => True) := by
  rw [opWrite32_of_running h.isOpen hr]
  refine .bind (Q := fun _ => Since s0 [encodeFrame s0.cfg .stepCore]) ?halt fun herr s1 h1 =>
    .bind (Q := fun _ => Since s0 (encodeFrame s0.cfg .stepCore ::
      if herr = none then [encodeFrame s0.cfg (.write32 a w)] else [])) ?write fun werr s2 h2 =>
    .bind (Q := fun _ => Since s0 (bracketFrames s0.cfg a w herr)) ?resume fun rerr s3 h3 => ?raise
  case halt =>
    exact .attempt (ackCommand_offers (h.setSeq 1) ..).ended
  case write =>
    split_ifs
    · exact .attempt (command_offers (h1.setSeq 2) ..).ended
    · exact h1
  case resume =>
    exact .attempt (ackCommand_offers (h2.setSeq 3) ..).ended
  case raise =>
    cases herr with
    | some e => exact ⟨some e, h3.setSeq 0⟩
    | none =>
      cases werr.or rerr with
      | some e => exact ⟨none, h3.setSeq 0⟩
      | none => exact h3.setSeq 0

/-- R171, R173: without the bracket, one frame. -/
theorem opWrite32_alone_frames (h : Since s0 [] s) (hr : s.session.run ≠ .running) : (opWrite32 a w s).Within
    (Since s0 [encodeFrame s0.cfg (.write32 a w)]) (fun _ => True) := by
  rw [opWrite32_of_not_running h.isOpen hr]
  exact .bind (command_offers (h.setSeq 2) ..).ended.attempt fun werr t ht => raiseIf_within werr (ht.setSeq 0)

/-- Settles O23: the frames of the body, ended with a value or an error. -/
theorem writeBracketAlwaysResumes : Obligations.WriteBracketAlwaysResumes := by
  intro s t a w ⟨_, hopen⟩ he ht
  have hbegin : Since s [] (begin s) := since_begin hopen
  refine ⟨fun hr => ?_, fun hr => ?_⟩
  · have hbody : (opBody (.write32 a w) (begin s)).Sat (fun _ => Since s (bracketFrames s.cfg a w none))
        (fun _ t => ∃ herr, Since s (bracketFrames s.cfg a w herr) t) (fun _ => True) :=
      Res.Sat.value (opWrite32_bracket_frames hbegin hr)
    obtain ⟨v, u, h, rfl⟩ | ⟨e, u, h, rfl⟩ := exec_ended he ht
    · rw [h] at hbody
      exact .inl hbody.newFrames_eq
    · rw [h] at hbody
      obtain ⟨_ | herr, hu⟩ := hbody
      · exact .inl hu.newFrames_eq
      · exact .inr ⟨hu.newFrames_eq, e, rfl⟩
  · have hbody : (opBody (.write32 a w) (begin s)).Within (Since s [encodeFrame s.cfg (.write32 a w)])
        (fun _ => True) := Res.Within.value (opWrite32_alone_frames hbegin hr)
    obtain ⟨v, u, h, rfl⟩ | ⟨e, u, h, rfl⟩ := exec_ended he ht
    · rw [h] at hbody
      exact Since.newFrames_eq (t := u) hbody
    · rw [h] at hbody
      exact Since.newFrames_eq (t := u) hbody

end resumes

section record

variable {P : Session → Prop} {v : Session} {s t : State}

/-- P of the session record, S.seq set back to 0 as the end of an operation sets it (R272). -/
def Recorded (P : Session → Prop) (t : State) : Prop := P { t.session with seq := 0 }

/-- An operation that writes neither S.run nor S.cpuid, and is not CLOSE, moves nothing of the record but S.seq. -/
theorem stable_recorded (P : Session → Prop) : Stable ⟨False, False, False⟩ (Recorded P) (Recorded P) where
  transacted h ht := by
    rw [Recorded, ht.session]
    exact h
  stopped h ht := by
    rw [Recorded, ht.session]
    exact h
  setSeq _ _ h := h
  setDrawn _ h := h
  setRun := False.elim
  setCpuid := False.elim
  closeTransport := False.elim

/-- Where a piece of an operation raises an error, its state satisfies E. -/
def Res.Fails {α : Type} (E : State → Prop) (r : Res α) : Prop := r.Sat (fun _ _ => True) (fun _ => E) fun _ => True

theorem Res.Sat.fails {α : Type} {r : Res α} {Q : α → State → Prop} {E B : State → Prop}
    (h : r.Sat Q (fun _ => E) B) : r.Fails E :=
  h.mono (fun _ _ _ => trivial) (fun _ _ => id) fun _ _ => trivial

theorem Res.Fails.value {α : Type} {r : Res α} {E : State → Prop} {f : α → Value} (h : r.Fails E) :
    (r.value f).Fails E := Res.Sat.value h

/-- R23, R272: the record as it was, or with the CPUID of the first reply in it. -/
def CpuidRead (v : Session) (rs : List RecvAnswer) (x : Session) : Prop :=
  x = v ∨ ∃ b, rs.head? = some (.ok b) ∧ b.length = 8 ∧ x = { v with cpuid := le32 b 4 }

/-- R170: the word a READ32 returns is that of the first reply to come. -/
theorem opRead32_reply (h : Recorded P s) (a : Word) : (opRead32 a s).Sat
    (fun x t => Recorded P t ∧ ∃ b, s.recvs.head? = some (.ok b) ∧ b.length = 8 ∧ x = le32 b 4)
    (fun _ => Recorded P) (Recorded P) := by
  have keep {t : State} (ht : t.session = s.session) : Recorded P t := by
    rw [Recorded, ht]
    exact h
  refine prologue_bind_sat h (.bind ((transact_sat ..).mono (fun _ _ => id) (fun _ _ ht => keep ht.1.1)
    fun _ ht => keep ht.1) fun b t ⟨same, hans, _⟩ => ?_)
  obtain ⟨_, hhead, hlen⟩ := hans
  exact ⟨keep same.1, b, hhead, hlen, rfl⟩

/-- R175: CPU_ID writes the cache last, from the reply it reads first. -/
theorem opCpuId_sat (h : Recorded (· = v) s) : (opCpuId s).Sat (fun _ => Recorded (CpuidRead v s.recvs))
    (fun _ => Recorded (· = v)) (Recorded (· = v)) := by
  refine prologue_bind_sat h (.bind (opRead32_reply (s := s.setSeq 1) h _) fun x t ⟨ht, b, hhead, hlen, hx⟩ => ?_)
  exact .inr ⟨b, hhead, hlen, by rw [← ht, hx]; rfl⟩

/-- R220: CORTEX_PART_NUMBER raises what its CPU_ID raises. -/
theorem opCortexPartNumber_sat (h : Recorded (· = v) s) : (opCortexPartNumber s).Sat
    (fun _ => Recorded (CpuidRead v s.recvs)) (fun _ => Recorded (· = v)) (Recorded (· = v)) := by
  refine prologue_bind_sat h (.bind (Q := fun _ => Recorded (CpuidRead v s.recvs)) ?_ fun _ _ ht => ht)
  split_ifs
  · exact opCpuId_sat (s := s.setSeq 1) h
  · exact .inl h

/-- R221: where the READ32 fails, the CPUID stays as CORTEX_PART_NUMBER left it. -/
theorem opChipId_within_cpuidRead (h : Recorded (· = v) s) :
    (opChipId s).Within (Recorded (CpuidRead v s.recvs)) (Recorded (CpuidRead v s.recvs)) := by
  have unread {t : State} (ht : Recorded (· = v) t) : Recorded (CpuidRead v s.recvs) t := .inl ht
  exact prologue_bind_within (unread h) (Res.Sat.bind ((opCortexPartNumber_sat (s := s.setSeq 1) h).mono
    (fun _ _ => id) (fun _ _ => unread) fun _ => unread) fun _ t ht =>
    (stable_recorded (CpuidRead v s.recvs)).opRead32_within (s := t.setSeq 2) ht _)

theorem opDevId_within_cpuidRead (h : Recorded (· = v) s) :
    (opDevId s).Within (Recorded (CpuidRead v s.recvs)) (Recorded (CpuidRead v s.recvs)) :=
  prologue_bind_within (.inl h) (.bind (opChipId_within_cpuidRead (s := s.setSeq 1) h) fun _ _ ht => .ok _ ht)

theorem opFlashSize_within_cpuidRead (h : Recorded (· = v) s) :
    (opFlashSize s).Within (Recorded (CpuidRead v s.recvs)) (Recorded (CpuidRead v s.recvs)) := by
  refine prologue_bind_within (.inl h) (.bind (opDevId_within_cpuidRead (s := s.setSeq 1) h) fun f t ht => ?_)
  cases flashAddrOf t.cfg f with
  | none => exact .err _ ht
  | some a => exact (stable_recorded _).opRead16_within (s := t.setSeq 2) ht a

/-- R169: an error leaves the record, in the operations that write it after the last frame or not at all. -/
theorem opBody_fails_recorded (h : Recorded (· = v) s) {i : Instr} (hreset : i ≠ .coreResetHalt)
    (hwrite : ∀ a w, i ≠ .write32 a w) (hid : i ∉ [.chipId, .devId, .flashSize] ∨ s.session.cpuid ≠ 0) :
    (opBody i s).Fails (Recorded (· = v)) := by
  have stable := stable_recorded (· = v)
  have unwritten (j : Instr) (hrun : ¬ writesRun j) (hcpuid : ¬ writesCpuid j s) (hclose : j ≠ .close) :
      (opBody j s).Fails (Recorded (· = v)) := (stable.opBody_within h j hrun hcpuid hclose).fails
  cases i with
  | close => exact trivial
  | sessionInit => exact (stable.opSessionInit_sat h).fails.value
  | status => exact (stable.opStatus_sat h).fails.value
  | halt => exact (stable.ackCommand_sat h ..).fails.value
  | step => exact (stable.ackCommand_sat h ..).fails.value
  | run => exact (stable.ackCommand_sat h ..).fails.value
  | reset => exact (stable.ackCommand_sat h ..).fails.value
  | hardReset => exact (stable.ackCommand_sat h ..).fails.value
  | forceDebug => exact (stable.ackCommand_sat h ..).fails.value
  | write32 a w => exact absurd rfl (hwrite a w)
  | cpuId => exact (opCpuId_sat h).fails.value
  | coreResetHalt => exact absurd rfl hreset
  | cortexPartNumber => exact (opCortexPartNumber_sat h).fails.value
  | chipId => exact unwritten _ (by simp [writesRun]) (by simpa [writesCpuid] using hid) nofun
  | devId => exact unwritten _ (by simp [writesRun]) (by simpa [writesCpuid] using hid) nofun
  | flashSize => exact unwritten _ (by simp [writesRun]) (by simpa [writesCpuid] using hid) nofun
  | _ => exact unwritten _ (by simp [writesRun]) (by simp [writesCpuid]) nofun

/-- R272: the three operations that go on after a CPU_ID leave what it wrote. -/
theorem opBody_fails_cpuidRead (h : Recorded (· = v) s) {i : Instr} (hi : i ∈ [.chipId, .devId, .flashSize]) :
    (opBody i s).Fails (Recorded (CpuidRead v s.recvs)) := by
  simp only [List.mem_cons, List.not_mem_nil, or_false] at hi
  obtain rfl | rfl | rfl := hi
  · exact (opChipId_within_cpuidRead h).fails.value
  · exact (opDevId_within_cpuidRead h).fails.value
  · exact (opFlashSize_within_cpuidRead h).fails.value

/-- Settles O41: the state an error is taken in, with S.seq set back to 0. -/
theorem errorKeepsRecord : Obligations.ErrorKeepsRecord := by
  intro i s t e he ht hreset hwrite
  obtain ⟨u, hbody, rfl⟩ := exec_raised he ht
  have hbegin : Recorded (· = { s.session with seq := 0 }) (begin s) := rfl
  have kept (hid : i ∉ [.chipId, .devId, .flashSize] ∨ s.session.cpuid ≠ 0) :
      Recorded (· = { s.session with seq := 0 }) u := by
    have hfails := opBody_fails_recorded hbegin hreset hwrite hid
    rw [hbody] at hfails
    exact hfails
  refine ⟨kept, ?_⟩
  by_cases hi : i ∈ [.chipId, .devId, .flashSize]
  · have hfails := opBody_fails_cpuidRead hbegin hi
    rw [hbody] at hfails
    exact hfails
  · exact .inl (kept (.inl hi))

end record

section endings

variable {α β : Type} {r : Res α} {e e' : Option Error} {P Q : State → Prop} {s : State}

/-- A piece of an operation raises e, or comes out with a value where e is none, and its state satisfies P. -/
def Res.EndsAs (r : Res α) (e : Option Error) (P : State → Prop) : Prop :=
  r.Sat (fun _ t => e = none ∧ P t) (fun x t => e = some x ∧ P t) fun _ => False

theorem Res.EndsAs.value {f : α → Value} (h : r.EndsAs e P) : (r.value f).EndsAs e P := Res.Sat.value h

theorem Res.EndsAs.bind_ok {k : α → State → Res β} (h : r.EndsAs none P) (hk : ∀ v t, P t → (k v t).EndsAs e Q) :
    (r.bind k).EndsAs e Q := by
  cases r with
  | ok v t => exact hk v t h.2
  | err x t => cases h.1
  | blocked t => cases h

/-- R14: an error ends the operation. -/
theorem Res.EndsAs.bind_err {k : α → State → Res β} {x : Error} (h : r.EndsAs (some x) P) :
    (r.bind k).EndsAs (some x) P := by
  cases r with
  | ok v t => cases h.1
  | err y t => exact h
  | blocked t => cases h

/-- R14: a caught error is told to what follows. -/
theorem Res.EndsAs.attempt_bind {k : Option Error → State → Res β} (h : r.EndsAs e P)
    (hk : ∀ t, P t → (k e t).EndsAs e' Q) : (r.attempt.bind k).EndsAs e' Q := by
  cases r with
  | ok v t =>
    obtain ⟨rfl, ht⟩ := h
    exact hk t ht
  | err x t =>
    obtain ⟨rfl, ht⟩ := h
    exact hk t ht
  | blocked t => cases h

theorem raiseIf_endsAs (h : P s) (e : Option Error) : (raiseIf e s).EndsAs e P := by
  cases e with
  | none => exact ⟨rfl, h⟩
  | some x => exact ⟨rfl, h⟩

theorem prologue_bind_endsAs {k : Unit → State → Res α} (ho : s.session.isOpen = true) (hk : (k () s).EndsAs e P) :
    ((prologue s).bind k).EndsAs e P := by
  rw [prologue_of_open ho]
  exact hk

end endings

/-- What the transport answers to one command that asks for a reply (R13): the reply, a failed Send, a failed Recv. -/
inductive CommandAnswer where
  | reply (b : List Byte)
  | sendFail (e : Nat)
  | recvFail (e : Nat)

namespace CommandAnswer

/-- The answer to the Send. -/
def sends : CommandAnswer → List SendAnswer
  | reply _ => [.ok]
  | sendFail e => [.fail e]
  | recvFail _ => [.ok]

/-- The answer to the Recv; there is none after a failed Send (R13). -/
def recvs : CommandAnswer → List RecvAnswer
  | reply b => [.ok b]
  | sendFail _ => []
  | recvFail e => [.fail e]

/-- R262, R263: the error it stands for. -/
def error : CommandAnswer → Option Error
  | reply _ => none
  | sendFail e => some (.transportSend e)
  | recvFail e => some (.transportRecv (.value e))

/-- A reply has the length n asked for (R268). -/
def Fits (n : Nat) : CommandAnswer → Prop
  | reply b => b.length = n
  | sendFail _ => True
  | recvFail _ => True

/-- R168, R169: the cache behind a command that sets it to `acked`, and was `before`. -/
def cache (acked before : RunState) : CommandAnswer → RunState
  | reply _ => acked
  | sendFail _ => before
  | recvFail _ => before

theorem error_reply (b : List Byte) : (reply b).error = none := rfl

theorem cache_self (r : RunState) (x : CommandAnswer) : x.cache r r = r := by cases x <;> rfl

theorem cache_of_error {x : CommandAnswer} {e : Error} (h : x.error = some e) (acked before : RunState) :
    x.cache acked before = before := by
  cases x with
  | reply b => cases h
  | sendFail y => rfl
  | recvFail y => rfl

end CommandAnswer

/-- In the middle of an operation that started in s0: the frames fs offered, the cache at r, nothing else of the record
written but S.seq, and the answers ss and rs left. -/
structure Stage (s0 : State) (fs : List Frame) (r : RunState) (ss : List SendAnswer) (rs : List RecvAnswer)
    (t : State) : Prop where
  since : Since s0 fs t
  session : t.session = { s0.session with run := r, seq := t.session.seq }
  sends : t.sends = ss
  recvs : t.recvs = rs

section stages

variable {s0 s t : State} {fs : List Frame} {r : RunState} {ss ss' : List SendAnswer} {rs rs' : List RecvAnswer}
  {a w : Word} {e : Error} {x y z : CommandAnswer}

theorem stage_begin (ho : s.session.isOpen = true) (hr : s.session.run = r) (hs : s.sends = ss)
    (hrecvs : s.recvs = rs) : Stage s [] r ss rs (begin s) :=
  ⟨since_begin ho, hr ▸ rfl, hs, hrecvs⟩

theorem Stage.run_eq (h : Stage s0 fs r ss rs s) : s.session.run = r := by rw [h.session]

theorem Stage.setSeq (h : Stage s0 fs r ss rs s) (k : Nat) : Stage s0 fs r ss rs (s.setSeq k) where
  since := h.since.setSeq k
  session := congrArg (fun v : Session => { v with seq := k }) h.session
  sends := h.sends
  recvs := h.recvs

theorem Stage.setRun (h : Stage s0 fs r ss rs s) (r' : RunState) : Stage s0 fs r' ss rs (s.setRun r') where
  since := { h.since with }
  session := congrArg (fun v : Session => { v with run := r' }) h.session
  sends := h.sends
  recvs := h.recvs

theorem Stage.transacted {op : FrameOp} {answered : Prop} (h : Stage s0 fs r ss rs s)
    (ht : Transacted (encodeFrame s.cfg op) answered s t) (hs : t.sends = ss') (hr : t.recvs = rs') :
    Stage s0 (fs ++ [encodeFrame s0.cfg op]) r ss' rs' t where
  since := h.since.transacted ht
  session := by
    rw [ht.session]
    exact h.session
  sends := hs
  recvs := hr

theorem transact_recv_failed {n : Nat} {e : Nat} (f : Frame) (hn : n ≠ 0) (hs : s.sends = .ok :: ss)
    (hr : s.recvs = .fail e :: rs) : ∃ t, transact f n s = .err (.transportRecv (.value e)) t ∧ t.sends = ss ∧
      t.recvs = rs := by
  simp [transact, send, recv, hs, hr, hn]

/-- R13: a command under each of the transport's answers; R169: only a reply lets the operation go on. -/
theorem command_endsAs {op : FrameOp} {n : Nat} (h : Stage s0 fs r (x.sends ++ ss) (x.recvs ++ rs) s) (hn : n ≠ 0)
    (hx : x.Fits n) : (command op n s).EndsAs x.error (Stage s0 (fs ++ [encodeFrame s0.cfg op]) r ss rs) := by
  have ht := transact_transacted (encodeFrame s.cfg op) n s
  rw [command]
  cases x with
  | reply b =>
    obtain ⟨hans, hs, hr⟩ := answers_of_reply h.sends (by rw [if_neg hn]; exact h.recvs) hx (encodeFrame s.cfg op)
    rw [transact_answered _ hans] at ht ⊢
    exact ⟨rfl, h.transacted ht hs hr⟩
  | sendFail e =>
    rw [transact_send_failed _ _ h.sends] at ht ⊢
    exact ⟨rfl, h.transacted ht rfl h.recvs⟩
  | recvFail e =>
    obtain ⟨t, hout, hs, hr⟩ := transact_recv_failed (encodeFrame s.cfg op) hn h.sends h.recvs
    rw [hout] at ht ⊢
    exact ⟨rfl, h.transacted ht hs hr⟩

theorem ackCommand_endsAs {op : FrameOp} {n : Nat} {acked : RunState}
    (h : Stage s0 fs r (x.sends ++ ss) (x.recvs ++ rs) s) (hn : n ≠ 0) (hx : x.Fits n) :
    (ackCommand op n acked s).EndsAs x.error (Stage s0 (fs ++ [encodeFrame s0.cfg op]) (x.cache acked r) ss rs) := by
  have hc := command_endsAs (op := op) h hn hx
  refine prologue_bind_endsAs h.since.isOpen ?_
  cases x with
  | reply b => exact .bind_ok hc fun _ t ht => ⟨rfl, ht.setRun acked⟩
  | sendFail e => exact .bind_err hc
  | recvFail e => exact .bind_err hc

theorem opRead32_endsAs (h : Stage s0 fs r (x.sends ++ ss) (x.recvs ++ rs) s) (hx : x.Fits 8) (a : Word) :
    (opRead32 a s).EndsAs x.error (Stage s0 (fs ++ [encodeFrame s0.cfg (.read32 a)]) r ss rs) := by
  have hc := command_endsAs (op := .read32 a) (n := Config.respLenRead32) h (by decide) hx
  refine prologue_bind_endsAs h.since.isOpen ?_
  cases x with
  | reply b => exact .bind_ok hc fun _ t ht => ⟨rfl, ht⟩
  | sendFail e => exact .bind_err hc
  | recvFail e => exact .bind_err hc

/-- R171, R173: a WRITE32 without the bracket. -/
theorem opWrite32_alone_endsAs (h : Stage s0 fs r (x.sends ++ ss) (x.recvs ++ rs) s) (hr : r ≠ .running)
    (hx : x.Fits 8) :
    (opWrite32 a w s).EndsAs x.error (Stage s0 (fs ++ [encodeFrame s0.cfg (.write32 a w)]) r ss rs) := by
  rw [opWrite32_of_not_running h.since.isOpen (h.run_eq ▸ hr)]
  exact .attempt_bind (command_endsAs (h.setSeq 2) (by decide) hx) fun t ht => raiseIf_endsAs (ht.setSeq 0) _

/-- R173, R174: HALT fails; the write is skipped, and RUN is sent, whose own error does not count. -/
theorem opWrite32_halt_failed_endsAs
    (h : Stage s0 fs .running (x.sends ++ (z.sends ++ ss)) (x.recvs ++ (z.recvs ++ rs)) s) (he : x.error = some e)
    (hx : x.Fits 2) (hz : z.Fits 2) : (opWrite32 a w s).EndsAs (some e)
      (Stage s0 (fs ++ [encodeFrame s0.cfg .stepCore] ++ [encodeFrame s0.cfg .run]) .running ss rs) := by
  rw [opWrite32_of_running h.since.isOpen h.run_eq]
  refine .attempt_bind (ackCommand_endsAs (h.setSeq 1) (by decide) hx) fun t1 h1 => ?_
  rw [CommandAnswer.cache_of_error he] at h1
  rw [he, if_neg nofun, Res.bind_ok]
  refine .attempt_bind (ackCommand_endsAs (h1.setSeq 3) (by decide) hz) fun t3 h3 => ?_
  rw [CommandAnswer.cache_self] at h3
  exact raiseIf_endsAs (h3.setSeq 0) _

/-- R173, R174: HALT is acknowledged; RUN is sent whatever became of the write, and the write's error comes first. -/
theorem opWrite32_halted_endsAs {b : List Byte} (h : Stage s0 fs .running (.ok :: (y.sends ++ (z.sends ++ ss)))
      (.ok b :: (y.recvs ++ (z.recvs ++ rs))) s) (hb : b.length = 2) (hy : y.Fits 8) (hz : z.Fits 2) :
    (opWrite32 a w s).EndsAs (y.error.or z.error) (Stage s0 (fs ++ [encodeFrame s0.cfg .stepCore] ++
      [encodeFrame s0.cfg (.write32 a w)] ++ [encodeFrame s0.cfg .run]) (z.cache .running .halted) ss rs) := by
  rw [opWrite32_of_running h.since.isOpen h.run_eq]
  refine .attempt_bind (ackCommand_endsAs (x := .reply b) (h.setSeq 1) (by decide) hb) fun t1 h1 => ?_
  rw [CommandAnswer.error_reply, if_pos rfl]
  refine .attempt_bind (command_endsAs (h1.setSeq 2) (by decide) hy) fun t2 h2 => ?_
  refine .attempt_bind (ackCommand_endsAs (h2.setSeq 3) (by decide) hz) fun t3 h3 => ?_
  exact raiseIf_endsAs (h3.setSeq 0) _

/-- The end of an operation whose body raises an error. -/
theorem exec_endsAs {i : Instr} (hready : Ready s) (h : (opBody i (begin s)).EndsAs (some e) (Stage s fs r ss rs)) :
    ∃ t, exec i s = .next t ∧ t.result = some (.err e) ∧ t.session = { s.session with run := r, seq := 0 } ∧
      newFrames s t = fs := by
  rw [exec_of_ready _ hready]
  cases hbody : opBody i (begin s) with
  | ok v u =>
    rw [hbody] at h
    cases h.1
  | err x u =>
    rw [hbody] at h
    obtain ⟨hx, hu⟩ := h
    cases hx
    exact ⟨_, rfl, rfl, congrArg (fun v : Session => { v with seq := 0 }) hu.session, hu.since.newFrames_eq⟩
  | blocked u =>
    rw [hbody] at h
    cases h

/-- Settles O24: HALT failed or acknowledged, with each answer to the commands behind it. -/
theorem writeErrorPrecedence : Obligations.WriteErrorPrecedence := by
  intro s a w bh bw br e1 e2 ss rs halt write run ends ⟨hready, hopen⟩ hr hbh hbw hbr
  have skipped (x z : CommandAnswer) {e : Error} (he : x.error = some e) (hx : x.Fits 2) (hz : z.Fits 2) {ss rs}
      (hs : s.sends = x.sends ++ (z.sends ++ ss)) (hrecvs : s.recvs = x.recvs ++ (z.recvs ++ rs)) :
      ends e .running [halt, run] :=
    exec_endsAs hready (.value (opWrite32_halt_failed_endsAs (stage_begin hopen hr hs hrecvs) he hx hz))
  have halted (y z : CommandAnswer) {e : Error} (he : y.error.or z.error = some e) (hy : y.Fits 8) (hz : z.Fits 2)
      {ss rs} (hs : s.sends = .ok :: (y.sends ++ (z.sends ++ ss)))
      (hrecvs : s.recvs = .ok bh :: (y.recvs ++ (z.recvs ++ rs))) :
      ends e (z.cache .running .halted) [halt, write, run] :=
    exec_endsAs hready (.value (he ▸ opWrite32_halted_endsAs (stage_begin hopen hr hs hrecvs) hbh hy hz))
  exact ⟨fun hs hrecvs => skipped (.sendFail e1) (.reply br) rfl trivial hbr hs hrecvs,
    fun hs => skipped (.sendFail e1) (.sendFail e2) rfl trivial trivial hs rfl,
    fun hs hrecvs => skipped (.recvFail e1) (.reply br) rfl trivial hbr hs hrecvs,
    fun hs hrecvs => skipped (.recvFail e1) (.recvFail e2) rfl trivial trivial hs hrecvs,
    fun hs hrecvs => halted (.sendFail e1) (.reply br) rfl trivial hbr hs hrecvs,
    fun hs hrecvs => halted (.recvFail e1) (.reply br) rfl trivial hbr hs hrecvs,
    fun hs hrecvs => halted (.recvFail e1) (.sendFail e2) rfl trivial trivial hs hrecvs,
    fun hs hrecvs => halted (.reply bw) (.sendFail e2) rfl hbw trivial hs hrecvs,
    fun hs hrecvs => halted (.reply bw) (.recvFail e1) rfl hbw trivial hs hrecvs⟩

end stages

section aborts

variable {s0 s : State} {fs1 fs2 fs3 gs : List Frame} {r1 r2 r3 r' : RunState} {ss1 ss2 ss3 ss' : List SendAnswer}
  {rs1 rs2 rs3 rs' : List RecvAnswer} {e : Option Error} {x : Error} {P : State → Prop}

/-- R179: the cache is Unknown behind the write of AIRCR, whether or not it raises. -/
theorem resetWrite_endsAs (hc : s.cfg = s0.cfg)
    (h : (opWrite32 s0.cfg.aircrAddr s0.cfg.aircrResetWord s).EndsAs e (Stage s0 gs r' ss' rs')) :
    (resetWrite s).EndsAs e (Stage s0 gs .unknown ss' rs') := by
  rw [resetWrite, hc]
  exact .attempt_bind h fun _ ht => raiseIf_endsAs (ht.setRun .unknown) _

/-- R179: the first write raises. -/
theorem opCoreResetHalt_dhcsr_failed (ho : s.session.isOpen = true)
    (h1 : (opWrite32 s.cfg.dhcsrAddr s.cfg.dhcsrHaltWord (s.setSeq 1)).EndsAs (some x) P) :
    (opCoreResetHalt s).EndsAs (some x) P :=
  prologue_bind_endsAs ho (.bind_err h1)

/-- R179: the second write raises. -/
theorem opCoreResetHalt_demcr_failed (ho : s.session.isOpen = true)
    (h1 : (opWrite32 s.cfg.dhcsrAddr s.cfg.dhcsrHaltWord (s.setSeq 1)).EndsAs none (Stage s0 fs1 r1 ss1 rs1))
    (h2 : ∀ t, Stage s0 fs1 r1 ss1 rs1 t → (opWrite32 s0.cfg.demcrAddr s0.cfg.demcrHaltAfterResetWord
      (t.setSeq 2)).EndsAs (some x) P) : (opCoreResetHalt s).EndsAs (some x) P :=
  prologue_bind_endsAs ho (.bind_ok h1 fun _ t ht => .bind_err (by rw [ht.since.cfg]; exact h2 t ht))

/-- R179: the third write raises. -/
theorem opCoreResetHalt_aircr_failed (ho : s.session.isOpen = true)
    (h1 : (opWrite32 s.cfg.dhcsrAddr s.cfg.dhcsrHaltWord (s.setSeq 1)).EndsAs none (Stage s0 fs1 r1 ss1 rs1))
    (h2 : ∀ t, Stage s0 fs1 r1 ss1 rs1 t → (opWrite32 s0.cfg.demcrAddr s0.cfg.demcrHaltAfterResetWord
      (t.setSeq 2)).EndsAs none (Stage s0 fs2 r2 ss2 rs2))
    (h3 : ∀ t, Stage s0 fs2 r2 ss2 rs2 t → (opWrite32 s0.cfg.aircrAddr s0.cfg.aircrResetWord
      (t.setSeq 3)).EndsAs (some x) (Stage s0 fs3 r3 ss3 rs3)) :
    (opCoreResetHalt s).EndsAs (some x) (Stage s0 fs3 .unknown ss3 rs3) :=
  prologue_bind_endsAs ho (.bind_ok h1 fun _ t1 ht1 => .bind_ok (by rw [ht1.since.cfg]; exact h2 t1 ht1)
    fun _ t2 ht2 => .bind_err (resetWrite_endsAs ht2.since.cfg (h3 t2 ht2)))

/-- R179: the read-back raises. -/
theorem opCoreResetHalt_readBack_failed (ho : s.session.isOpen = true)
    (h1 : (opWrite32 s.cfg.dhcsrAddr s.cfg.dhcsrHaltWord (s.setSeq 1)).EndsAs none (Stage s0 fs1 r1 ss1 rs1))
    (h2 : ∀ t, Stage s0 fs1 r1 ss1 rs1 t → (opWrite32 s0.cfg.demcrAddr s0.cfg.demcrHaltAfterResetWord
      (t.setSeq 2)).EndsAs none (Stage s0 fs2 r2 ss2 rs2))
    (h3 : ∀ t, Stage s0 fs2 r2 ss2 rs2 t → (opWrite32 s0.cfg.aircrAddr s0.cfg.aircrResetWord
      (t.setSeq 3)).EndsAs none (Stage s0 fs3 r3 ss3 rs3))
    (h4 : ∀ t, Stage s0 fs3 .unknown ss3 rs3 t → (opRead32 s0.cfg.aircrAddr (t.setSeq 4)).EndsAs (some x) P) :
    (opCoreResetHalt s).EndsAs (some x) P :=
  prologue_bind_endsAs ho (.bind_ok h1 fun _ t1 ht1 => .bind_ok (by rw [ht1.since.cfg]; exact h2 t1 ht1)
    fun _ t2 ht2 => .bind_ok (resetWrite_endsAs ht2.since.cfg (h3 t2 ht2))
    fun _ t3 ht3 => .bind_err (by rw [ht3.since.cfg]; exact h4 t3 ht3))

/-- Settles O29: the steps of CORE_RESET_HALT up to the one that fails, with the cache Halted and Running. -/
theorem coreResetHaltAborts : Obligations.CoreResetHaltAborts := by
  intro s h1 h2 h3 w1 w2 w3 r1 r2 r3 e ss rs halt run d m a q ends ⟨hready, hopen⟩ hh1 hh2 hh3 hw1 hw2 hw3 hr1 hr2 hr3
  have notRunning : RunState.halted ≠ .running := nofun
  have body {e : Error} {r : RunState} {fs : List Frame} {ss rs}
      (h : (opCoreResetHalt (begin s)).EndsAs (some e) (Stage s fs r ss rs)) : ends e r fs :=
    exec_endsAs hready (.value h)
  refine ⟨fun hrun => ⟨fun hs hrecvs => ?_, fun hs hrecvs => ?_, fun hs hrecvs => ?_, fun hs hrecvs => ?_⟩,
    fun hrun => ⟨fun hs hrecvs => ?_, fun hs hrecvs => ?_⟩⟩
  all_goals have start := (stage_begin hopen hrun hs hrecvs).setSeq 1
  · exact body (opCoreResetHalt_dhcsr_failed hopen (opWrite32_alone_endsAs (x := .recvFail e) start notRunning trivial))
  · exact body (opCoreResetHalt_demcr_failed hopen
      (opWrite32_alone_endsAs (x := .reply w1) start notRunning hw1) fun t ht =>
      opWrite32_alone_endsAs (x := .recvFail e) (ht.setSeq 2) notRunning trivial)
  · exact body (opCoreResetHalt_aircr_failed hopen
      (opWrite32_alone_endsAs (x := .reply w1) start notRunning hw1)
      (fun t ht => opWrite32_alone_endsAs (x := .reply w2) (ht.setSeq 2) notRunning hw2)
      fun t ht => opWrite32_alone_endsAs (x := .recvFail e) (ht.setSeq 3) notRunning trivial)
  · exact body (opCoreResetHalt_readBack_failed hopen
      (opWrite32_alone_endsAs (x := .reply w1) start notRunning hw1)
      (fun t ht => opWrite32_alone_endsAs (x := .reply w2) (ht.setSeq 2) notRunning hw2)
      (fun t ht => opWrite32_alone_endsAs (x := .reply w3) (ht.setSeq 3) notRunning hw3)
      fun t ht => opRead32_endsAs (x := .recvFail e) (ht.setSeq 4) trivial _)
  · exact body (opCoreResetHalt_demcr_failed hopen
      (opWrite32_halted_endsAs (y := .reply w1) (z := .reply r1) start hh1 hw1 hr1) fun t ht =>
      opWrite32_halted_endsAs (y := .sendFail e) (z := .reply r2) (ht.setSeq 2) hh2 trivial hr2)
  · exact body (opCoreResetHalt_aircr_failed hopen
      (opWrite32_halted_endsAs (y := .reply w1) (z := .reply r1) start hh1 hw1 hr1)
      (fun t ht => opWrite32_halted_endsAs (y := .reply w2) (z := .reply r2) (ht.setSeq 2) hh2 hw2 hr2)
      fun t ht => opWrite32_halted_endsAs (y := .sendFail e) (z := .reply r3) (ht.setSeq 3) hh3 trivial hr3)

end aborts

end Sys2Proof.Machine
end

section
/-! PROOF of the family 44_chip_identification.md. The part-number table (R225, R226) and the pure lookup (R223) come
first. The other operations begin alike: `cpuidExchanges` are the commands that bring the CPUID into the cache, none
where it is there (R220), and `State.resolved` is the state after them and the commands that follow; each operation
adds one command to the operation it calls (R221, R222, R224). -/

namespace Sys2Proof

/-- What a table says of a key stands in a row of that key. -/
theorem mem_of_lookup_eq_some {α β : Type} [BEq α] [LawfulBEq α] {l : List (α × β)} {x : α} {y : β}
    (h : l.lookup x = some y) : (x, y) ∈ l := by
  obtain ⟨before, after, rfl, _⟩ := List.lookup_eq_some_iff.mp h
  exact List.mem_append_cons_self

/-- R227: every address of the table is even. -/
theorem isOdd_of_flashAddrOf {c : Config} {f : Code12} {a : Word} (hc : c.flashTableOk = true)
    (h : flashAddrOf c f = some a) : isOdd a = false := by
  have ⟨_, heven⟩ : _ ∧ (c.flashSizeAddr.all fun r => !isOdd r.2) = true := (Bool.and_eq_true ..).mp hc
  simpa using List.all_eq_true.mp heven (f, a) (mem_of_lookup_eq_some h)

/-- R54, R170, R177: the half of a READ32 reply that an even address selects. -/
theorem halfOf_le32 {c : Config} {a : Word} (hc : c.maskOk = true) (ha : a.getLsbD 0 = false) (d : List Byte) :
    halfOf c.read16Mask a (le32 d 4) =
      if a.getLsbD 1 then d.getD 7 0 ++ d.getD 6 0 else d.getD 5 0 ++ d.getD 4 0 := by
  have hmask : c.read16Mask.extractLsb' 0 16 = 0xFFFF := eq_of_beq hc
  obtain ⟨hlow, hhigh⟩ := halves_of_word _ _ _ _ (le32 d 4) rfl
  rw [halfOf_of_even ha hmask, hlow, hhigh]

/-- R223: a code with no row. -/
theorem groupOf_of_no_row {c : Config} {f : Code12} (h : ∀ r ∈ c.familyGroup, r.1 ≠ f) :
    groupOf c f = .unknownGroup := by
  have hnone : c.familyGroup.lookup f = none :=
    List.lookup_eq_none_iff.mpr fun r hr => bne_iff_ne.mpr (h r hr).symm
  rw [groupOf, hnone, Option.getD_none]

/-- R223: a code with a row has the group of a row of its own. -/
theorem groupOf_mem {c : Config} {f : Code12} (h : ∃ r ∈ c.familyGroup, r.1 = f) :
    (f, groupOf c f) ∈ c.familyGroup := by
  obtain ⟨r, hr, rfl⟩ := h
  obtain ⟨g, hg⟩ := Option.isSome_iff_exists.mp (List.lookup_isSome_iff.mpr ⟨r, hr, beq_self_eq_true r.1⟩)
  rw [groupOf, hg, Option.getD_some]
  exact mem_of_lookup_eq_some hg

end Sys2Proof

namespace Sys2Proof.Machine

section tables

variable {c : Config}

/-- R225: the table of part numbers. -/
def partRows (c : Config) : List (Code12 × CoreType) :=
  [(c.pnM0, .m0), (c.pnM0P, .m0p), (c.pnM1, .m1), (c.pnM3, .m3), (c.pnM4, .m4), (c.pnM7, .m7)]

/-- R225: what the first row of a part number says, Unknown where it has none. -/
def firstRow (l : List (Code12 × CoreType)) (pn : Code12) : CoreType :=
  ((l.find? fun r => pn == r.1).map (·.2)).getD .unknown

theorem firstRow_cons (x pn : Code12) (t : CoreType) (l : List (Code12 × CoreType)) :
    firstRow ((x, t) :: l) pn = if pn = x then t else firstRow l pn := by
  by_cases h : pn = x <;> simp [firstRow, h]

/-- R225: PartDecode's chain of tests is the search of the table. -/
theorem partDecode_eq_firstRow (c : Config) (pn : Code12) : partDecode c pn = firstRow (partRows c) pn := by
  simp only [partRows, firstRow_cons]
  rfl

/-- R225: under distinct part numbers every row is the first of its own. -/
theorem partDecode_of_row {pn : Code12} {t : CoreType} (hc : c.partNumbersDistinct = true)
    (h : (pn, t) ∈ partRows c) : partDecode c pn = t := by
  have hnodup : ((partRows c).map (·.1)).Nodup := of_decide_eq_true hc
  have hfirst : (partRows c).find? (fun r => pn == r.1) = some (pn, t) :=
    find?_eq_of_nodup_key hnodup h (beq_self_eq_true pn) fun _ hx => (eq_of_beq hx).symm
  rw [partDecode_eq_firstRow, firstRow, hfirst]
  rfl

theorem partDecode_of_no_row {pn : Code12} (h : pn ∉ (partRows c).map (·.1)) : partDecode c pn = .unknown := by
  have hnone : (partRows c).find? (fun r => pn == r.1) = none :=
    List.find?_eq_none.mpr fun r hr hpn => h (eq_of_beq hpn ▸ List.mem_map_of_mem hr)
  rw [partDecode_eq_firstRow, firstRow, hnone]
  rfl

theorem isM0Class_iff (t : CoreType) : isM0Class t = true ↔ t = .m0 ∨ t = .m0p := by
  simp [isM0Class]

/-- Settles O31: the rows of PartDecode's table, and the class that selects the address. -/
theorem partNumbersClassify : Obligations.PartNumbersClassify := by
  intro c hc
  refine ⟨⟨partDecode_of_row hc ?_, partDecode_of_row hc ?_, partDecode_of_row hc ?_, partDecode_of_row hc ?_,
    partDecode_of_row hc ?_, partDecode_of_row hc ?_⟩, fun pn hpn => partDecode_of_no_row hpn,
    fun t => if_congr (isM0Class_iff t) rfl rfl⟩
  all_goals simp [partRows]

/-- Settles O33: the lookup sends no frame and asks for no open session. -/
theorem familyGroupResult : Obligations.FamilyGroupResult := by
  intro s f hready
  refine ⟨groupOf s.cfg f, ?_, groupOf_of_no_row, groupOf_mem⟩
  rw [exec_of_ready _ hready]
  rfl

end tables

section resolved

variable {s : State} {b v d : List Byte} {l : List Exchange} {op : FrameOp} {a : Word} {k : Nat}

/-- R220: the commands that bring the CPUID into the cache, the reply b; none where it is there. -/
def cpuidExchanges (s : State) (b : List Byte) : List Exchange :=
  if s.session.cpuid = 0 then [served s (.read32 s.cfg.cpuidAddr) b] else []

/-- R23, R220: what the cache holds after them. -/
def cpuidAfter (s : State) (b : List Byte) : Word :=
  if s.session.cpuid = 0 then le32 b 4 else s.session.cpuid

/-- The state after the CPUID is in the cache and the commands l were served. -/
def State.resolved (s : State) (b : List Byte) (l : List Exchange) : State :=
  (s.exchangedAll (cpuidExchanges s b ++ l)).setCpuid (cpuidAfter s b)

theorem cpuidExchanges_of_unread (h : s.session.cpuid = 0) :
    cpuidExchanges s b = [served s (.read32 s.cfg.cpuidAddr) b] := if_pos h

theorem cpuidExchanges_of_cached (h : s.session.cpuid ≠ 0) : cpuidExchanges s b = [] := if_neg h

theorem cpuidAfter_of_unread (h : s.session.cpuid = 0) : cpuidAfter s b = le32 b 4 := if_pos h

theorem cpuidAfter_of_cached (h : s.session.cpuid ≠ 0) : cpuidAfter s b = s.session.cpuid := if_neg h

@[simp] theorem resolved_cfg : (s.resolved b l).cfg = s.cfg := exchangedAll_cfg ..

@[simp] theorem resolved_isOpen : (s.resolved b l).session.isOpen = s.session.isOpen :=
  (State.setCpuid_isOpen ..).trans (congrArg Session.isOpen (exchangedAll_session ..))

theorem resolved_setSeq : (s.setSeq k).resolved b l = (s.resolved b l).setSeq k :=
  congrArg (State.setCpuid · (cpuidAfter s b)) (exchangedAll_setSeq ..)

theorem resolved_begin : (begin s).resolved b l = begin (s.resolved b l) :=
  congrArg (State.setCpuid · (cpuidAfter s b)) (exchangedAll_begin ..)

/-- R23: with the CPUID cached, the commands that follow are all, and the cache keeps its word. -/
theorem resolved_of_cached (h : s.session.cpuid ≠ 0) : s.resolved b l = s.exchangedAll l := by
  have hsame : (s.exchangedAll l).session.cpuid = s.session.cpuid := by rw [exchangedAll_session]
  rw [State.resolved, cpuidExchanges_of_cached h, cpuidAfter_of_cached h, List.nil_append, ← hsame]
  rfl

theorem resolved_of_unread (h : s.session.cpuid = 0) :
    s.resolved b l = (s.exchangedAll (served s (.read32 s.cfg.cpuidAddr) b :: l)).setCpuid (le32 b 4) := by
  rw [State.resolved, cpuidExchanges_of_unread h, cpuidAfter_of_unread h]
  rfl

theorem resolved_append : s.resolved b (l ++ [served s op v]) =
    (s.resolved b l).exchanged (encodeFrame s.cfg op) (respLen s.cfg op) v := by
  rw [State.resolved, ← List.append_assoc, exchangedAll_append]
  rfl

theorem answers_resolved (h : AnswersAll s (cpuidExchanges s b ++ (l ++ [served s op v]))) :
    AnswersAll s (cpuidExchanges s b ++ l) ∧ Answers (s.resolved b l) (respLen s.cfg op) v := by
  rw [← List.append_assoc, answersAll_append] at h
  obtain ⟨hfirst, hlast, _⟩ := h
  exact ⟨hfirst, hlast⟩

/-- R170: a READ32 as the next command. -/
theorem opRead32_resolved (ho : s.session.isOpen = true)
    (h : AnswersAll s (cpuidExchanges s b ++ (l ++ [served s (.read32 a) v]))) :
    opRead32 a ((s.resolved b l).setSeq k) =
      .ok (le32 v 4) ((s.resolved b (l ++ [served s (.read32 a) v])).setSeq k) := by
  obtain ⟨_, hans⟩ := answers_resolved h
  have hopen : ((s.resolved b l).setSeq k).session.isOpen = true := by simpa using ho
  rw [opRead32_answered hopen ((answers_setSeq ..).mpr hans), resolved_append, State.setSeq_cfg, resolved_cfg]
  rfl

/-- R176, R177: a READ16 of an even address as the next command. -/
theorem opRead16_resolved (ho : s.session.isOpen = true) (ha : a.getLsbD 0 = false)
    (h : AnswersAll s (cpuidExchanges s b ++ (l ++ [served s (.read32 (wordAddr a)) d]))) :
    opRead16 a ((s.resolved b l).setSeq k) = .ok (halfOf s.cfg.read16Mask a (le32 d 4))
      ((s.resolved b (l ++ [served s (.read32 (wordAddr a)) d])).setSeq 1) := by
  obtain ⟨_, hans⟩ := answers_resolved h
  have hopen : ((s.resolved b l).setSeq k).session.isOpen = true := by simpa using ho
  rw [opRead16_answered hopen ha ((answers_setSeq ..).mpr hans), resolved_append, State.setSeq_cfg, resolved_cfg]
  rfl

theorem answersAll_begin (h : AnswersAll s (cpuidExchanges s b ++ l)) :
    AnswersAll (begin s) (cpuidExchanges (begin s) b ++ l) :=
  answersAll_of_ports (s := s) rfl rfl h

/-- Neither the steps nor what taking the request wrote shows once the operation has ended. -/
theorem answered_setSeq_begin (s : State) (k : Nat) (r : Result) :
    ((begin s).setSeq k).answered r = s.answered r := rfl

section ends

variable {α : Type} {i : Instr} {r : Res α} {f : α → Value}

/-- R28: an operation that returns in a resolved state. -/
theorem exec_resolved_ok {x : α} (hready : Ready s) (hbody : opBody i (begin s) = r.value f)
    (hr : r = .ok x (((begin s).resolved b l).setSeq k)) :
    exec i s = .next ((s.resolved b l).answered (.ok (f x))) := by
  rw [exec_of_ready _ hready, hbody, hr, Res.value_ok, finish_ok, resolved_begin, answered_setSeq_begin]

/-- R272: an operation that raises in a resolved state. -/
theorem exec_resolved_err {e : Error} (hready : Ready s) (hbody : opBody i (begin s) = r.value f)
    (hr : r = .err e (((begin s).resolved b l).setSeq k)) :
    exec i s = .next ((s.resolved b l).answered (.err e)) := by
  rw [exec_of_ready _ hready, hbody, hr, Res.value_err, finish_err, resolved_begin, answered_setSeq_begin]

end ends

end resolved

section identification

variable {s : State} {b v d : List Byte} {k : Nat}

/-- R220: the core type of the CPUID, read where the cache is 0. -/
theorem opCortexPartNumber_answered (ho : s.session.isOpen = true) (h : AnswersAll s (cpuidExchanges s b)) :
    opCortexPartNumber (s.setSeq 1) =
      .ok (partDecode s.cfg (partField (cpuidAfter s b))) ((s.resolved b []).setSeq 1) := by
  rw [opCortexPartNumber, prologue_of_open (s := s.setSeq 1) ho, Res.bind_ok, State.setSeq_cpuid]
  by_cases hcpuid : s.session.cpuid = 0
  · rw [cpuidExchanges_of_unread hcpuid] at h
    obtain ⟨hans, _⟩ := h
    rw [if_pos hcpuid, opCpuId_answered (s := (s.setSeq 1).setSeq 1) ho hans, resolved_of_unread hcpuid,
      cpuidAfter_of_unread hcpuid]
    rfl
  · rw [if_neg hcpuid, resolved_of_cached hcpuid, cpuidAfter_of_cached hcpuid]
    rfl

/-- R221: the chip-identification command, its address chosen by the core type. -/
def chipCommand (s : State) (b : List Byte) : FrameOp :=
  .read32 (chipIdAddr s.cfg (partDecode s.cfg (partField (cpuidAfter s b))))

/-- R221: the core type first, then the register of its class. -/
theorem opChipId_answered (ho : s.session.isOpen = true)
    (h : AnswersAll s (cpuidExchanges s b ++ [served s (chipCommand s b) v])) :
    opChipId (s.setSeq k) = .ok (le32 v 4) ((s.resolved b [served s (chipCommand s b) v]).setSeq 2) := by
  obtain ⟨hcpuid, _⟩ := (answersAll_append ..).mp h
  rw [opChipId, prologue_of_open (s := s.setSeq k) ho, Res.bind_ok, setSeq_setSeq,
    opCortexPartNumber_answered ho hcpuid, Res.bind_ok, setSeq_setSeq, State.setSeq_cfg, resolved_cfg]
  exact opRead32_resolved (l := []) ho h

/-- R222: the chip id's low 12 bits. -/
theorem opDevId_answered (ho : s.session.isOpen = true)
    (h : AnswersAll s (cpuidExchanges s b ++ [served s (chipCommand s b) v])) :
    opDevId (s.setSeq k) =
      .ok (familyField (le32 v 4)) ((s.resolved b [served s (chipCommand s b) v]).setSeq 2) := by
  rw [opDevId, prologue_of_open (s := s.setSeq k) ho, Res.bind_ok, setSeq_setSeq, opChipId_answered ho h, Res.bind_ok]

/-- R224, R266: a family with no row ends the operation after the commands of DEV_ID. -/
theorem opFlashSize_of_no_row (ho : s.session.isOpen = true)
    (h : AnswersAll s (cpuidExchanges s b ++ [served s (chipCommand s b) v]))
    (hf : flashAddrOf s.cfg (familyField (le32 v 4)) = none) :
    opFlashSize s =
      .err (.unknownCore (familyField (le32 v 4))) ((s.resolved b [served s (chipCommand s b) v]).setSeq 2) := by
  rw [opFlashSize, prologue_of_open ho, Res.bind_ok, opDevId_answered ho h, Res.bind_ok, State.setSeq_cfg,
    resolved_cfg, hf]

/-- R224, R229: the halfword at the address of a family's row. -/
theorem opFlashSize_of_row {a : Word} (ho : s.session.isOpen = true)
    (h : AnswersAll s (cpuidExchanges s b ++
      [served s (chipCommand s b) v, served s (.read32 (wordAddr a)) d]))
    (hf : flashAddrOf s.cfg (familyField (le32 v 4)) = some a) (heven : a.getLsbD 0 = false) :
    opFlashSize s = .ok (halfOf s.cfg.read16Mask a (le32 d 4))
      ((s.resolved b [served s (chipCommand s b) v, served s (.read32 (wordAddr a)) d]).setSeq 1) := by
  obtain ⟨hdev, _⟩ := answers_resolved (l := [served s (chipCommand s b) v]) h
  rw [opFlashSize, prologue_of_open ho, Res.bind_ok, opDevId_answered ho hdev, Res.bind_ok, State.setSeq_cfg,
    resolved_cfg, hf]
  exact opRead16_resolved (l := [served s (chipCommand s b) v]) ho heven h

/-- Settles O30: the CPUID cached, and read. -/
theorem cortexPartNumberResult : Obligations.CortexPartNumberResult := by
  intro s ⟨hready, hopen⟩
  have ends (b : List Byte) (hans : AnswersAll s (cpuidExchanges s b)) : exec .cortexPartNumber s = .next
      ((s.resolved b []).answered (.ok (.coreType (partDecode s.cfg (partField (cpuidAfter s b)))))) :=
    exec_resolved_ok hready rfl (opCortexPartNumber_answered (s := begin s) hopen
      (answersAll_of_ports (s := s) rfl rfl hans))
  refine ⟨fun hcached => ?_, fun b hzero hans => ?_⟩
  · have cached := ends []
    rw [cpuidExchanges_of_cached hcached, resolved_of_cached hcached, cpuidAfter_of_cached hcached] at cached
    exact cached trivial
  · have unread := ends b
    rw [cpuidExchanges_of_unread hzero, resolved_of_unread hzero, cpuidAfter_of_unread hzero] at unread
    exact unread ⟨hans, trivial⟩

/-- Settles O32: CHIP_ID and DEV_ID with the CPUID cached, and with the CPUID read first. -/
theorem chipIdAndDevIdResult : Obligations.ChipIdAndDevIdResult := by
  intro s b v ⟨hready, hopen⟩
  have ends (hans : AnswersAll s (cpuidExchanges s b ++ [served s (chipCommand s b) v])) :
      exec .chipId s = .next ((s.resolved b [served s (chipCommand s b) v]).answered (.ok (.word (le32 v 4)))) ∧
      exec .devId s = .next
        ((s.resolved b [served s (chipCommand s b) v]).answered (.ok (.family (familyField (le32 v 4))))) :=
    ⟨exec_resolved_ok hready rfl (opChipId_answered (s := begin s) (k := 1) hopen (answersAll_begin hans)),
      exec_resolved_ok hready rfl (opDevId_answered (s := begin s) (k := 1) hopen (answersAll_begin hans))⟩
  refine ⟨fun hcached hans => ?_, fun hzero hans => ?_⟩
  · rw [cpuidExchanges_of_cached hcached, resolved_of_cached hcached, chipCommand,
      cpuidAfter_of_cached hcached] at ends
    exact ends hans
  · rw [cpuidExchanges_of_unread hzero, resolved_of_unread hzero, chipCommand, cpuidAfter_of_unread hzero] at ends
    exact ends hans

/-- Settles O34: a family with no row, and one with a row, whose address is even (R227). -/
theorem flashSizeResult : Obligations.FlashSizeResult := by
  intro s b v d cached pre cpuid chip family ⟨hready, hopen⟩ htable hmask
  constructor
  · intro hnone hans
    exact exec_resolved_err hready rfl (opFlashSize_of_no_row (s := begin s) hopen (answersAll_begin hans) hnone)
  · intro a hrow ex hans
    have heven : a.getLsbD 0 = false := isOdd_of_flashAddrOf htable hrow
    rw [← halfOf_le32 hmask heven]
    exact exec_resolved_ok hready rfl (opFlashSize_of_row (s := begin s) hopen (answersAll_begin hans) hrow heven)

end identification

end Sys2Proof.Machine
end

section
/-! PROOF of the family 60_exceptions.md. First the closed session (R261, R276), the end of an operation with an error
(R272, R274) and independent sessions (R277); then the first command of an operation failing (`CommandFails`, R262,
R263, R268, R273) and the command behind a CPUID already read (R272); last the account of the errors of an operation
however the transport answers (`Reported`, R271, R273): an error is the transport's, and the first of its port, or one
of the operation's own (`OwnError`, R264 to R267). -/

namespace Sys2Proof.Machine

section sessionState

variable {i : Instr} {s t : State}

/-- R100, R261: on a closed session an operation with a prologue ends there. -/
theorem opBody_raises_closed (h : s.session.isOpen = false) (hclose : i ≠ .close) (hgroup : ∀ f, i ≠ .familyGroup f) :
    opBody i s = .err .closed s := by
  have atPrologue {α : Type} {k : Unit → State → Res α} {f : α → Value} :
      ((prologue s).bind k).value f = .err .closed s := by simp [h]
  cases i with
  | close => exact absurd rfl hclose
  | familyGroup f => exact absurd rfl (hgroup f)
  | _ => exact atPrologue

/-- Settles O37: the operation ends at the prologue, and what taking the request wrote does not show. -/
theorem closedSessionRaisesClosed : Obligations.ClosedSessionRaisesClosed := by
  intro i s hready hclosed hclose hgroup
  rw [exec_of_ready _ hready, opBody_raises_closed (s := begin s) hclosed hclose hgroup, finish_err]
  rfl

/-- Settles O36: past the prologue CLOCK_SPEED raises at once. -/
theorem clockSpeedNotImplemented : Obligations.ClockSpeedNotImplemented := by
  intro s ⟨hready, hopen⟩
  have hbody : opBody .clockSpeed (begin s) = .err (.notImplemented "clock-speed") (begin s) := by
    simp [opBody, opClockSpeed, prologue_of_open (s := begin s) hopen]
  rw [exec_of_ready _ hready, hbody, finish_err]
  rfl

/-- R276: no operation opens a closed session. -/
theorem exec_keeps_closed (he : exec i s = .next t) (h : s.session.isOpen = false) : t.session.isOpen = false := by
  obtain ⟨_, rfl⟩ := exec_next he
  obtain hbody | ⟨v, hbody⟩ := opBody_closed (s := begin s) h i
  · rw [hbody]
    exact h
  · rw [hbody]
    exact h

/-- R136, R276: an opening keeps the open flag, but where it aborts it closes the session. -/
theorem finishOpening_isOpen {full : Prop} {r : Res Unit} (h : r.Keeps True full s) :
    (finishOpening r).session.isOpen = s.session.isOpen ∨
      (finishOpening r).session.isOpen = false ∧ (finishOpening r).phase = .discarded := by
  cases r with
  | ok v u => exact have hu : Framed True full s u := h; .inl (hu.kept trivial).1
  | err e u => exact .inr ⟨rfl, rfl⟩
  | blocked u => exact have hu : Framed True full s u := h; .inl (hu.kept trivial).1

/-- Settles O46: the opening, a waiting step, and a step that serves a request. -/
theorem openIsLeftOnce : Obligations.OpenIsLeftOnce := by
  intro s t hstep
  obtain ⟨_, ⟨hphase, rfl⟩ | ⟨_, _, rfl⟩ | ⟨_, r, rest, i, hreq, hdec, he⟩⟩ := step_next hstep
  · obtain hkept | ⟨hclosed, hdiscarded⟩ :=
      finishOpening_isOpen (opSessionInit_keeps (s := begin s) (full := False) False.elim)
    · exact ⟨hkept.trans, fun ho hc => absurd (hkept.symm.trans hc) (by simp [ho])⟩
    · exact ⟨fun _ => hclosed, fun _ _ => .inl ⟨hphase, hdiscarded⟩⟩
  · exact ⟨id, fun ho hc => absurd (ho.symm.trans hc) nofun⟩
  · refine ⟨exec_keeps_closed (s := s.setRequests rest) he, fun ho hc => .inr ⟨r, rest, hreq, ?_⟩⟩
    by_cases hi : i = .close
    · exact hi ▸ hdec
    · obtain ⟨hkept, _⟩ := (exec_framed he).kept hi
      exact absurd ((hkept.trans ho).symm.trans hc) nofun

/-- Settles O50: the state the error is taken in, framed, and with no operation in progress. -/
theorem errorLeavesSessionUsable : Obligations.ErrorLeavesSessionUsable := by
  intro i s t e he ht
  have hframe := exec_framed he
  obtain ⟨hidle, _⟩ := exec_next he
  obtain ⟨u, hbody, rfl⟩ := exec_raised he ht
  have hnotClose : i ≠ .close := by
    rintro rfl
    cases hbody
  have hdone := (stable_idle (w := ⟨True, True, True⟩)).opBody_within (s := begin s) hidle i
    (fun _ => trivial) (fun _ => trivial) (fun _ => trivial)
  rw [hbody] at hdone
  obtain ⟨hopen, _⟩ := hframe.kept hnotClose
  exact ⟨rfl, hopen, hframe.phase, hdone, hframe.cfg⟩

/-- R277: a step of session k, seen from the list. -/
theorem stepSession_next {k : Nat} {ss ss' : List State} (h : stepSession k ss = .next ss') :
    ss' = ss ∨ ∃ s t, s ∈ ss ∧ step s = .next t ∧ ss' = ss.set k t := by
  unfold stepSession at h
  split at h
  · cases h
    exact .inl rfl
  next s hs =>
  split at h
  · next t ht =>
    cases h
    exact .inr ⟨s, t, List.mem_of_getElem? hs, ht, rfl⟩
  · cases h
  · cases h

/-- Settles O60: the one entry that is set is that of a step, which keeps its configuration. -/
theorem sessionsIndependent : Obligations.SessionsIndependent := by
  intro k ss ss' c h
  obtain rfl | ⟨s, t, hs, hstep, rfl⟩ := stepSession_next h
  · exact ⟨fun _ _ => rfl, id⟩
  · obtain ⟨hcfg, _⟩ := configAndVariantFixed s t hstep
    refine ⟨fun j hj => List.getElem?_set_ne hj.symm, fun hc u hu => ?_⟩
    obtain hu | rfl := List.mem_or_eq_of_mem_set hu
    · exact hc u hu
    · exact hcfg.trans (hc s hs)

end sessionState

section firstFailure

variable {α β : Type} {i : Instr} {s t : State} {op : FrameOp} {e : Error} {a w : Word} {b : List Byte}

/-- The command of op fails with e wherever in a sequence it stands, and leaves t. -/
def CommandFails (s : State) (op : FrameOp) (e : Error) (t : State) : Prop :=
  ∀ k, command op (respLen s.cfg op) (s.setSeq k) = .err e (t.setSeq k)

/-- R262: no Recv follows a failed Send. -/
theorem commandFails_of_send {x : Nat} {ss : List SendAnswer} (op : FrameOp) (h : s.sends = .fail x :: ss) :
    CommandFails s op (.transportSend x) ((s.setSends ss).log
      (.send (outEp s.cfg s.session.variant) (encodeFrame s.cfg op) (some (.fail x)))) :=
  fun k => transact_send_failed (s := s.setSeq k) _ _ h

/-- R13: the port log behind a Send taken and a Recv that got the answer r, and the answers left. -/
def State.received (s : State) (op : FrameOp) (r : RecvAnswer) (ss : List SendAnswer) (rs : List RecvAnswer) : State :=
  { s with
    sends := ss
    recvs := rs
    trace := s.trace ++ [Event.send (outEp s.cfg s.session.variant) (encodeFrame s.cfg op) (some .ok),
      Event.recv s.cfg.inEp (respLen s.cfg op) (some r)] }

/-- R263, R268: a Recv that fails, or brings a reply of another length. -/
theorem commandFails_of_recv {ss : List SendAnswer} {r : RecvAnswer} {rs : List RecvAnswer}
    (hn : respLen s.cfg op ≠ 0) (hs : s.sends = .ok :: ss) (hr : s.recvs = r :: rs)
    (he : (Event.recv s.cfg.inEp (respLen s.cfg op) (some r)).error = some e) :
    CommandFails s op e (s.received op r ss rs) := by
  intro k
  have hlog : (s.received op r ss rs).setSeq k =
      ((((s.setSeq k).setSends ss).log (.send (outEp s.cfg s.session.variant) (encodeFrame s.cfg op)
        (some .ok))).setRecvs rs).log (.recv s.cfg.inEp (respLen s.cfg op) (some r)) := by
    simp [State.received, State.setSeq, State.log, State.setSends, State.setRecvs]
  rw [hlog]
  cases r with
  | fail x =>
    cases he
    simp [command, transact, send, recv, hs, hr, hn]
  | ok b =>
    by_cases hb : b.length = respLen s.cfg op
    · simp [Event.error, hb] at he
    · simp only [Event.error, if_neg hb, Option.some.injEq] at he
      subst he
      simp [command, transact, send, recv, hs, hr, hn, hb]

theorem Res.bind_of_err {r : Res α} {k : α → State → Res β} (h : r = .err e t) : r.bind k = .err e t := by
  rw [h, Res.bind_err]

theorem Res.value_of_err {r : Res α} {f : α → Value} (h : r = .err e t) : r.value f = .err e t := by
  rw [h, Res.value_err]

/-- R100: past the prologue of an open session. -/
theorem prologue_bind_eq {k : Unit → State → Res α} {r : Res α} (ho : s.session.isOpen = true) (h : k () s = r) :
    (prologue s).bind k = r := by
  rw [prologue_of_open ho, Res.bind_ok, h]

section operations

variable (ho : s.session.isOpen = true) (k : Nat)
include ho

theorem opMode_fails (h : CommandFails s .mode e t) : opMode (s.setSeq k) = .err e (t.setSeq k) :=
  prologue_bind_eq ho (Res.bind_of_err (h k))

theorem opExitDfu_fails (h : CommandFails s .exitDfu e t) : opExitDfu (s.setSeq k) = .err e (t.setSeq k) :=
  prologue_bind_eq ho ((send_eq_transact ..).trans (Res.bind_of_err (h k)))

theorem opEnterSwd_fails (h : CommandFails s .enterSwd e t) : opEnterSwd (s.setSeq k) = .err e (t.setSeq k) :=
  prologue_bind_eq ho (Res.bind_of_err (h k))

theorem opSessionInit_fails (h : CommandFails s .mode e t) : opSessionInit s = .err e (t.setSeq 1) :=
  prologue_bind_eq ho (Res.bind_of_err (opMode_fails ho 1 h))

theorem opVersion_fails (h : CommandFails s .version e t) : opVersion (s.setSeq k) = .err e (t.setSeq k) :=
  prologue_bind_eq ho (Res.bind_of_err (h k))

theorem opTargetVoltage_fails (h : CommandFails s .targetVoltage e t) :
    opTargetVoltage (s.setSeq k) = .err e (t.setSeq k) :=
  prologue_bind_eq ho (Res.bind_of_err (h k))

theorem opStatus_fails (h : CommandFails s .status e t) : opStatus (s.setSeq k) = .err e (t.setSeq k) :=
  prologue_bind_eq ho (Res.bind_of_err (h k))

theorem opCoreId_fails (h : CommandFails s .coreId e t) : opCoreId (s.setSeq k) = .err e (t.setSeq k) :=
  prologue_bind_eq ho (Res.bind_of_err (h k))

theorem opRead32_fails (h : CommandFails s (.read32 a) e t) : opRead32 a (s.setSeq k) = .err e (t.setSeq k) :=
  prologue_bind_eq ho (Res.bind_of_err (h k))

/-- R102, R169: the cache is not written. -/
theorem ackCommand_fails {r : RunState} (h : CommandFails s op e t) :
    ackCommand op (respLen s.cfg op) r (s.setSeq k) = .err e (t.setSeq k) :=
  prologue_bind_eq ho (Res.bind_of_err (h k))

/-- R171, R173: without the bracket the one frame's error is the operation's. -/
theorem opWrite32_fails (hr : s.session.run ≠ .running) (h : CommandFails s (.write32 a w) e t) :
    opWrite32 a w (s.setSeq k) = .err e (t.setSeq 0) := by
  have hwrite : writeStep a w ((s.setSeq k).setSeq 2) = .err e (t.setSeq 2) := h 2
  rw [opWrite32_of_not_running (s := s.setSeq k) ho hr, hwrite, Res.attempt_err, Res.bind_ok, raiseIf_some,
    setSeq_setSeq]

theorem opRead16_fails (ha : isOdd a = false) (h : CommandFails s (.read32 (wordAddr a)) e t) :
    opRead16 a s = .err e (t.setSeq 1) := by
  rw [opRead16, prologue_of_open ho, Res.bind_ok, ha, if_neg nofun, opRead32_fails ho 1 h, Res.bind_err]

theorem opCpuId_fails (h : CommandFails s (.read32 s.cfg.cpuidAddr) e t) :
    opCpuId (s.setSeq k) = .err e (t.setSeq 1) :=
  prologue_bind_eq ho (Res.bind_of_err (opRead32_fails ho 1 h))

theorem opCoreResetHalt_fails (hr : s.session.run ≠ .running)
    (h : CommandFails s (.write32 s.cfg.dhcsrAddr s.cfg.dhcsrHaltWord) e t) :
    opCoreResetHalt s = .err e (t.setSeq 0) :=
  prologue_bind_eq ho (Res.bind_of_err (opWrite32_fails ho 1 hr h))

theorem opCortexPartNumber_fails (hcpuid : s.session.cpuid = 0) (h : CommandFails s (.read32 s.cfg.cpuidAddr) e t) :
    opCortexPartNumber (s.setSeq k) = .err e (t.setSeq 1) := by
  rw [opCortexPartNumber, prologue_of_open (s := s.setSeq k) ho, Res.bind_ok, State.setSeq_cpuid, if_pos hcpuid,
    setSeq_setSeq, opCpuId_fails ho 1 h, Res.bind_err]

/-- R221: the CPUID cannot be read. -/
theorem opChipId_cpuid_fails (hcpuid : s.session.cpuid = 0) (h : CommandFails s (.read32 s.cfg.cpuidAddr) e t) :
    opChipId (s.setSeq k) = .err e (t.setSeq 1) :=
  prologue_bind_eq ho (Res.bind_of_err (opCortexPartNumber_fails ho 1 hcpuid h))

/-- R221, R272: the CPUID stands in the cache, and the READ32 behind it fails. -/
theorem opChipId_read_fails (hans : AnswersAll s (cpuidExchanges s b))
    (h : CommandFails (s.resolved b []) (chipCommand s b) e t) : opChipId (s.setSeq k) = .err e (t.setSeq 2) := by
  have hopen : (s.resolved b []).session.isOpen = true := by simpa using ho
  rw [opChipId, prologue_of_open (s := s.setSeq k) ho, Res.bind_ok, setSeq_setSeq, opCortexPartNumber_answered ho hans,
    Res.bind_ok, setSeq_setSeq, State.setSeq_cfg, resolved_cfg]
  exact opRead32_fails hopen 2 h

/-- R221, R222, R224: the operations that start with a CHIP_ID raise what it raises. -/
theorem opBody_chipId_fails (hi : i ∈ [.chipId, .devId, .flashSize]) (h : ∀ k, opChipId (s.setSeq k) = .err e t) :
    opBody i s = .err e t := by
  have hdev (k : Nat) : opDevId (s.setSeq k) = .err e t := prologue_bind_eq ho (Res.bind_of_err (h 1))
  simp only [List.mem_cons, List.not_mem_nil, or_false] at hi
  obtain rfl | rfl | rfl := hi
  · exact Res.value_of_err (h s.session.seq)
  · exact Res.value_of_err (hdev s.session.seq)
  · exact Res.value_of_err (prologue_bind_eq ho (Res.bind_of_err (hdev 1)))

/-- R220, R221: the first command of those operations fails, be it the CPUID's or the chip id's. -/
theorem opBody_chipId_first_fails (hi : i ∈ [.chipId, .devId, .flashSize])
    (h : CommandFails s (.read32 (firstCommand.firstIdAddr s)) e t) : ∃ k, opBody i s = .err e (t.setSeq k) := by
  unfold firstCommand.firstIdAddr at h
  by_cases hcpuid : s.session.cpuid = 0
  · rw [if_pos hcpuid] at h
    exact ⟨1, opBody_chipId_fails ho hi fun k => opChipId_cpuid_fails ho k hcpuid h⟩
  · rw [if_neg hcpuid] at h
    have hans : AnswersAll s (cpuidExchanges s []) := by
      rw [cpuidExchanges_of_cached hcpuid]
      trivial
    refine ⟨2, opBody_chipId_fails ho hi fun k => opChipId_read_fails ho k hans ?_⟩
    rw [resolved_of_cached hcpuid, chipCommand, cpuidAfter_of_cached hcpuid]
    exact h

/-- R273: what the first command of an operation raises, the operation raises; but for the brackets (R172). -/
theorem opBody_first_fails (hfirst : firstCommand s i = some op) (hb : ¬ bracketed s i) (h : CommandFails s op e t) :
    ∃ k, opBody i s = .err e (t.setSeq k) := by
  cases i with
  | mode => cases hfirst; exact ⟨_, Res.value_of_err (opMode_fails ho s.session.seq h)⟩
  | exitDfu => cases hfirst; exact ⟨_, Res.value_of_err (opExitDfu_fails ho s.session.seq h)⟩
  | enterSwd => cases hfirst; exact ⟨_, Res.value_of_err (opEnterSwd_fails ho s.session.seq h)⟩
  | sessionInit => cases hfirst; exact ⟨_, Res.value_of_err (opSessionInit_fails ho h)⟩
  | close => cases hfirst
  | version => cases hfirst; exact ⟨_, Res.value_of_err (opVersion_fails ho s.session.seq h)⟩
  | targetVoltage => cases hfirst; exact ⟨_, Res.value_of_err (opTargetVoltage_fails ho s.session.seq h)⟩
  | status => cases hfirst; exact ⟨_, Res.value_of_err (opStatus_fails ho s.session.seq h)⟩
  | halt => cases hfirst; exact ⟨_, Res.value_of_err (ackCommand_fails ho s.session.seq h)⟩
  | step => cases hfirst; exact ⟨_, Res.value_of_err (ackCommand_fails ho s.session.seq h)⟩
  | run => cases hfirst; exact ⟨_, Res.value_of_err (ackCommand_fails ho s.session.seq h)⟩
  | reset => cases hfirst; exact ⟨_, Res.value_of_err (ackCommand_fails ho s.session.seq h)⟩
  | hardReset => cases hfirst; exact ⟨_, Res.value_of_err (ackCommand_fails ho s.session.seq h)⟩
  | forceDebug => cases hfirst; exact ⟨_, Res.value_of_err (ackCommand_fails ho s.session.seq h)⟩
  | coreId => cases hfirst; exact ⟨_, Res.value_of_err (opCoreId_fails ho s.session.seq h)⟩
  | read32 a => cases hfirst; exact ⟨_, Res.value_of_err (opRead32_fails ho s.session.seq h)⟩
  | write32 a w =>
    have hr : s.session.run ≠ .running := fun hr => hb ⟨hr, .inr ⟨a, w, rfl⟩⟩
    obtain rfl : .write32 a w = op := by simpa [firstCommand, hr] using hfirst
    exact ⟨_, Res.value_of_err (opWrite32_fails ho s.session.seq hr h)⟩
  | read16 a =>
    obtain ⟨ha, rfl⟩ : isOdd a = false ∧ .read32 (wordAddr a) = op := by simpa [firstCommand] using hfirst
    exact ⟨_, Res.value_of_err (opRead16_fails ho ha h)⟩
  | cpuId => cases hfirst; exact ⟨_, Res.value_of_err (opCpuId_fails ho s.session.seq h)⟩
  | coreResetHalt =>
    have hr : s.session.run ≠ .running := fun hr => hb ⟨hr, .inl rfl⟩
    obtain rfl : .write32 s.cfg.dhcsrAddr s.cfg.dhcsrHaltWord = op := by simpa [firstCommand, hr] using hfirst
    exact ⟨_, Res.value_of_err (opCoreResetHalt_fails ho hr h)⟩
  | cortexPartNumber =>
    obtain ⟨hcpuid, rfl⟩ : s.session.cpuid = 0 ∧ .read32 s.cfg.cpuidAddr = op := by simpa [firstCommand] using hfirst
    exact ⟨_, Res.value_of_err (opCortexPartNumber_fails ho s.session.seq hcpuid h)⟩
  | chipId => cases hfirst; exact opBody_chipId_first_fails ho (by decide) h
  | devId => cases hfirst; exact opBody_chipId_first_fails ho (by decide) h
  | familyGroup f => cases hfirst
  | flashSize => cases hfirst; exact opBody_chipId_first_fails ho (by decide) h
  | clockSpeed => cases hfirst

end operations

/-- The same for the operation the host requests. -/
theorem exec_first_fails (h : OpenReady s) (hfirst : firstCommand s i = some op) (hb : ¬ bracketed s i)
    (hfails : CommandFails (begin s) op e (begin t)) : exec i s = .next (t.answered (.err e)) := by
  obtain ⟨hready, hopen⟩ := h
  have hbegin : firstCommand (begin s) i = some op := hfirst
  obtain ⟨k, hbody⟩ := opBody_first_fails (s := begin s) hopen hbegin hb hfails
  rw [exec_of_ready _ hready, hbody, finish_err, answered_setSeq_begin]

/-- Settles O38: the first command's Send fails. -/
theorem sendFailureRaises : Obligations.SendFailureRaises :=
  fun _ op _ _ _ hopen hfirst hb hs => exec_first_fails hopen hfirst hb (commandFails_of_send op hs)

/-- Settles O39: its Recv fails, or brings a short reply. -/
theorem recvFailureRaises : Obligations.RecvFailureRaises := by
  intro i op s ss r rs t hopen hfirst hn hb hs hr
  have ends {e : Error} (he : (Event.recv s.cfg.inEp (respLen s.cfg op) (some r)).error = some e) :
      exec i s = .next (t.answered (.err e)) :=
    exec_first_fails hopen hfirst hb (commandFails_of_recv (s := begin s) hn hs hr he)
  refine ⟨fun e hfail => ends ?_, fun b hok hlen => ends ?_⟩
  · subst hfail
    rfl
  · subst hok
    simp [Event.error, hlen]

/-- R272: the record an operation leaves whose READ32 of the chip id fails in t, the CPUID just read. -/
theorem exec_chipId_read_fails (h : OpenReady s) (hi : i ∈ [.chipId, .devId, .flashSize])
    (hcpuid : s.session.cpuid = 0) (hans : Answers s 8 b)
    (hfails : CommandFails ((begin s).resolved b []) (chipCommand (begin s) b) e t)
    (ht : t.session = ((begin s).resolved b []).session) :
    ∃ t, exec i s = .next t ∧ t.result = some (.err e) ∧
      t.session = { s.session with cpuid := le32 b 4, seq := 0 } := by
  obtain ⟨hready, hopen⟩ := h
  have hall : AnswersAll (begin s) (cpuidExchanges (begin s) b) := by
    rw [cpuidExchanges_of_unread (s := begin s) hcpuid]
    exact ⟨hans, trivial⟩
  have hbody := opBody_chipId_fails (s := begin s) hopen hi fun k =>
    opChipId_read_fails (s := begin s) hopen k hall hfails
  rw [resolved_of_unread (s := begin s) hcpuid] at ht
  refine ⟨_, exec_of_ready i hready, ?_⟩
  rw [hbody, finish_err]
  exact ⟨rfl, congrArg (fun v : Session => { v with seq := 0 }) ht⟩

/-- Settles O51: the READ32 behind the CPUID fails in its Send, and in its Recv. -/
theorem errorKeepsCompletedWrites : Obligations.ErrorKeepsCompletedWrites := by
  intro i s b e ss rs hi hopen hcpuid hb
  have resolved : (begin s).resolved b [] = _ := resolved_of_unread (s := begin s) hcpuid
  refine ⟨fun hs hr => ?_, fun hs hr => ?_⟩
  all_goals have hans : Answers s 8 b := ⟨by rw [hs]; rfl, by rw [hr]; exact ⟨rfl, hb⟩⟩
  · refine exec_chipId_read_fails hopen hi hcpuid hans (commandFails_of_send (ss := ss) _ ?_) rfl
    rw [resolved]
    exact congrArg List.tail hs
  · refine exec_chipId_read_fails hopen hi hcpuid hans (commandFails_of_recv (r := .fail e) (ss := ss) (rs := rs)
      (show 8 ≠ 0 by decide) ?_ ?_ rfl) rfl
    · rw [resolved]
      exact congrArg List.tail hs
    · rw [resolved]
      exact congrArg List.tail hr

end firstFailure

section accounts

/-- R261, R264 to R267: the errors an operation that starts in s raises of its own, the transport apart. -/
inductive OwnError (s : State) : Instr → Error → Prop where
  | closed (i : Instr) (h : s.session.isOpen = false) : OwnError s i .closed
  | oddAddress (a : Word) (h : isOdd a = true) : OwnError s (.read16 a) (.unalignedAccess a)
  | oddRow (f : Code12) (a : Word) (hrow : flashAddrOf s.cfg f = some a) (h : isOdd a = true) :
    OwnError s .flashSize (.unalignedAccess a)
  | noRow (f : Code12) (h : flashAddrOf s.cfg f = none) : OwnError s .flashSize (.unknownCore f)
  | zeroReference (m : Int) : OwnError s .targetVoltage (.measuredVoltageZero m)
  | clockSpeed : OwnError s .clockSpeed (.notImplemented "clock-speed")

/-- R271: the error that uses of the port amount to. -/
def portError (evs : List Event) (x : Option Error) : Prop := firstError evs = x

/-- R135: the same for SESSION_INIT, where EXIT_DFU does not count; its frame must be told from the others. -/
def initError (c : Config) (evs : List Event) (x : Option Error) : Prop :=
  c.framesDistinct = true → firstError (evs.filter fun ev => !ev.offers (encodeFrame c .exitDfu)) = x

/-- The account each operation gives of its uses of the port. -/
def accountOf (c : Config) : Instr → List Event → Option Error → Prop
  | .sessionInit => initError c
  | _ => portError

theorem accountOf_eq {i : Instr} (c : Config) (h : i ≠ .sessionInit) : accountOf c i = portError := by
  cases i with
  | sessionInit => exact absurd rfl h
  | _ => rfl

/-- In an account μ every use of the port by a `Transact` of f counts. -/
def Counts (μ : List Event → Option Error → Prop) (f : Frame) : Prop :=
  ∀ s evs evs' x, μ evs x → TransactEvents s f evs' → μ (evs ++ evs') (x.or (firstError evs'))

theorem firstError_append (l m : List Event) : firstError (l ++ m) = (firstError l).or (firstError m) :=
  List.findSome?_append

theorem counts_portError (f : Frame) : Counts portError f := by
  rintro s evs evs' _ rfl _
  exact firstError_append evs evs'

/-- R80: under distinct frames no other command offers the frame of EXIT_DFU. -/
theorem encodeFrame_ne {c : Config} {op op' : FrameOp} (hc : c.framesDistinct = true) (h : op ≠ op') :
    encodeFrame c op ≠ encodeFrame c op' := by
  intro heq
  have hdec := decodeFrame_encodeFrame hc op
  rw [heq, decodeFrame_encodeFrame hc op'] at hdec
  exact h (Except.ok.inj hdec).symm

theorem counts_initError {c : Config} {op : FrameOp} (h : op ≠ .exitDfu) : Counts (initError c) (encodeFrame c op) := by
  intro s evs evs' x hx hevs hc
  have hkept : evs'.filter (fun ev => !ev.offers (encodeFrame c .exitDfu)) = evs' := by
    have hne := encodeFrame_ne hc h
    obtain ⟨a, rfl⟩ | ⟨n, a, rfl⟩ := hevs <;> simp [Event.offers, hne]
  rw [List.filter_append, hkept, firstError_append, hx hc]

/-- R135: the Send of EXIT_DFU changes nothing in SESSION_INIT's account. -/
theorem initError_exitDfu {c : Config} {evs : List Event} {x : Option Error} (h : initError c evs x) (ep : Endpoint)
    (a : Option SendAnswer) : initError c (evs ++ [.send ep (encodeFrame c .exitDfu) a]) x := by
  intro hc
  simpa [List.filter_append, Event.offers] using h hc

/-- In the middle of an operation that started in s0: an open session of its configuration, where the account of the
port since s0 is x. -/
structure Reported (μ : List Event → Option Error → Prop) (s0 : State) (x : Option Error) (t : State) : Prop where
  cfg : t.cfg = s0.cfg
  isOpen : t.session.isOpen = true
  port : ∃ evs, t.trace = s0.trace ++ evs ∧ μ evs x

/-- R271: a piece of an operation, where the account was x: a value leaves it, and an error is the transport's, the
next of the account, or one of E, none of the port's. -/
def Res.Reports {α : Type} (μ : List Event → Option Error → Prop) (s0 : State) (E : Error → Prop) (x : Option Error)
    (r : Res α) : Prop :=
  r.Sat (fun _ => Reported μ s0 x)
    (fun e t => (e.isTransport = true ∧ Reported μ s0 (x.or (some e)) t) ∨ (E e ∧ Reported μ s0 x t)) fun _ => True

variable {α β : Type} {μ : List Event → Option Error → Prop} {s0 s t : State} {E : Error → Prop}
  {x : Option Error} {op : FrameOp} {r : Res α}

theorem Reported.setSeq (h : Reported μ s0 x s) (k : Nat) : Reported μ s0 x (s.setSeq k) := { h with }
theorem Reported.setRun (h : Reported μ s0 x s) (y : RunState) : Reported μ s0 x (s.setRun y) := { h with }
theorem Reported.setCpuid (h : Reported μ s0 x s) (v : Word) : Reported μ s0 x (s.setCpuid v) := { h with }
theorem Reported.setDrawn (h : Reported μ s0 x s) (k : Nat) : Reported μ s0 x (s.setDrawn k) := { h with }

theorem reported_begin (hμ : μ [] none) (ho : s.session.isOpen = true) : Reported μ s none (begin s) :=
  ⟨rfl, ho, [], (List.append_nil _).symm, hμ⟩

theorem Reported.newEvents (h : Reported μ s0 x t) : μ (newEvents s0 t) x := by
  obtain ⟨evs, htrace, hμ⟩ := h.port
  rwa [Machine.newEvents, htrace, List.drop_left]

/-- What a `Transact` of the frame f did to the port, with the error x it came to. -/
def Exchanged (f : Frame) (x : Option Error) (s t : State) : Prop :=
  t.cfg = s.cfg ∧ t.session = s.session ∧
    ∃ evs, TransactEvents s f evs ∧ t.trace = s.trace ++ evs ∧ firstError evs = x

/-- R262, R263, R268: the error a `Transact` raises is that of the one use of the port that failed. -/
theorem transact_exchanged (f : Frame) (n : Nat) (s : State) : (transact f n s).Sat (fun _ => Exchanged f none s)
    (fun e t => e.isTransport = true ∧ Exchanged f (some e) s t) fun _ => True := by
  unfold transact
  rcases send_cases f s with ⟨l, _, e⟩ | ⟨y, l, _, e⟩ | ⟨_, e⟩ <;> rw [e]
  · rw [Res.bind_ok]
    split
    · exact ⟨rfl, rfl, _, .inl ⟨_, rfl⟩, rfl, rfl⟩
    · rcases recv_cases n ((s.setSends l).log (.send (outEp s.cfg s.session.variant) f (some .ok))) with
        ⟨b, l', _, hb, e⟩ | ⟨b, l', _, hb, e⟩ | ⟨y, l', _, e⟩ | ⟨_, e⟩ <;> rw [e]
      · exact ⟨rfl, rfl, _, .inr ⟨n, _, rfl⟩, List.append_assoc ..,
          by simp [firstError, List.findSome?_cons, Event.error, hb]⟩
      · exact ⟨rfl, rfl, rfl, _, .inr ⟨n, _, rfl⟩, List.append_assoc ..,
          by simp [firstError, List.findSome?_cons, Event.error, hb]⟩
      · exact ⟨rfl, rfl, rfl, _, .inr ⟨n, _, rfl⟩, List.append_assoc .., rfl⟩
      · trivial
  · exact ⟨rfl, rfl, rfl, _, .inl ⟨_, rfl⟩, rfl, rfl⟩
  · trivial

theorem Reported.exchanged {f : Frame} {y : Option Error} (h : Reported μ s0 x s) (hμ : Counts μ f)
    (ht : Exchanged f y s t) : Reported μ s0 (x.or y) t := by
  obtain ⟨hcfg, hsession, evs, hevs, htrace, rfl⟩ := ht
  obtain ⟨before, hbefore, hx⟩ := h.port
  have hport : t.trace = s0.trace ++ (before ++ evs) := by rw [htrace, hbefore, List.append_assoc]
  exact ⟨hcfg.trans h.cfg, hsession ▸ h.isOpen, before ++ evs, hport, hμ _ _ _ _ hx hevs⟩

section control

theorem Res.Reports.bind {k : α → State → Res β} (h : r.Reports μ s0 E x)
    (hk : ∀ v t, Reported μ s0 x t → (k v t).Reports μ s0 E x) : (r.bind k).Reports μ s0 E x :=
  Res.Sat.bind h hk

theorem Res.Reports.value {f : α → Value} (h : r.Reports μ s0 E x) : (r.value f).Reports μ s0 E x := Res.Sat.value h

theorem Res.Reports.ok (v : α) (h : Reported μ s0 x s) : (Res.ok v s).Reports μ s0 E x := h

/-- An error of the operation's own. -/
theorem Res.Reports.own {e : Error} (h : Reported μ s0 x s) (he : E e) : (Res.err e s : Res α).Reports μ s0 E x :=
  .inr ⟨he, h⟩

theorem Res.Reports.ite {c : Prop} [Decidable c] {r' : Res α} (hr : c → r.Reports μ s0 E x)
    (hr' : ¬ c → r'.Reports μ s0 E x) : (if c then r else r').Reports μ s0 E x := by
  split
  · next h => exact hr h
  · next h => exact hr' h

/-- R14, R174: an error of the transport that is caught stands in the account. -/
theorem Res.Reports.attempt {E' : Error → State → Prop} (h : r.Reports μ s0 (fun _ => False) x) :
    r.attempt.Sat (fun y => Reported μ s0 (x.or y)) E' fun _ => True := by
  cases r with
  | ok v t => exact show Reported μ s0 (x.or none) t by rw [Option.or_none]; exact h
  | err e t =>
    obtain ⟨_, ht⟩ | ⟨hfalse, _⟩ := h
    · exact ht
    · exact hfalse.elim
  | blocked t => trivial

theorem prologue_bind_reports {k : Unit → State → Res α} (h : Reported μ s0 x s)
    (hk : (k () s).Reports μ s0 E x) : ((prologue s).bind k).Reports μ s0 E x := by
  rw [prologue_of_open h.isOpen]
  exact hk

theorem command_reports (h : Reported μ s0 x s) (hμ : Counts μ (encodeFrame s0.cfg op)) (n : Nat) :
    (command op n s).Reports μ s0 E x := by
  have hcount : Counts μ (encodeFrame s.cfg op) := h.cfg.symm ▸ hμ
  refine (transact_exchanged (encodeFrame s.cfg op) n s).mono (fun _ t ht => ?_) (fun e t ⟨he, ht⟩ => ?_) fun _ => id
  · have := h.exchanged hcount ht
    rwa [Option.or_none] at this
  · exact .inl ⟨he, h.exchanged hcount ht⟩

end control

section operations

theorem opMode_reports (h : Reported μ s0 x s) (hμ : Counts μ (encodeFrame s0.cfg .mode)) :
    (opMode s).Reports μ s0 E x :=
  prologue_bind_reports h (.bind (command_reports h hμ _) fun _ _ ht => .ok _ (ht.setDrawn _))

theorem opEnterSwd_reports (h : Reported μ s0 x s) (hμ : Counts μ (encodeFrame s0.cfg .enterSwd)) :
    (opEnterSwd s).Reports μ s0 E x :=
  prologue_bind_reports h (.bind (command_reports h hμ _) fun _ _ ht => .ok _ ht)

theorem opStatus_reports (h : Reported μ s0 x s) (hμ : Counts μ (encodeFrame s0.cfg .status)) :
    (opStatus s).Reports μ s0 E x :=
  prologue_bind_reports h (.bind (command_reports h hμ _) fun _ _ ht => .ok _ (ht.setRun _))

/-- R135: the Send of EXIT_DFU may fail, and SESSION_INIT's account is as it was. -/
theorem opExitDfu_uncounted {E' : Error → State → Prop} (h : Reported (initError s0.cfg) s0 x s) :
    (opExitDfu s).attempt.Sat (fun _ => Reported (initError s0.cfg) s0 x) E' fun _ => True := by
  have uncounted (l : List SendAnswer) (a : SendAnswer) : Reported (initError s0.cfg) s0 x
      ((s.setSends l).log (.send (outEp s.cfg s.session.variant) (encodeFrame s.cfg .exitDfu) (some a))) := by
    obtain ⟨evs, htrace, hx⟩ := h.port
    refine ⟨h.cfg, h.isOpen, _, ?_, initError_exitDfu hx (outEp s.cfg s.session.variant) (some a)⟩
    rw [State.log_trace, State.setSends_trace, htrace, h.cfg, List.append_assoc]
  rw [opExitDfu, prologue_of_open h.isOpen, Res.bind_ok]
  obtain ⟨l, _, e⟩ | ⟨y, l, _, e⟩ | ⟨_, e⟩ := send_cases (encodeFrame s.cfg .exitDfu) s <;> rw [e]
  · exact uncounted l .ok
  · exact uncounted l (.fail y)
  · trivial

theorem opSessionInit_reports (h : Reported (initError s0.cfg) s0 x s) :
    (opSessionInit s).Reports (initError s0.cfg) s0 E x := by
  refine prologue_bind_reports h (.bind (opMode_reports (h.setSeq 1) (counts_initError nofun)) fun m1 s1 h1 => ?_)
  refine Res.Sat.bind (Q := fun _ => Reported (initError s0.cfg) s0 x) ?exitDfu fun _ s2 h2 => ?_
  case exitDfu =>
    split
    · exact opExitDfu_uncounted (h1.setSeq 2)
    · exact h1.setSeq 2
  refine .bind (opMode_reports (h2.setSeq 3) (counts_initError nofun)) fun m2 s3 h3 => ?_
  refine Res.Reports.bind (.ite (fun _ => .ok _ (h3.setSeq 4)) fun _ =>
    opEnterSwd_reports (h3.setSeq 4) (counts_initError nofun)) fun _ s4 h4 => ?_
  exact .bind (opStatus_reports (h4.setSeq 5) (counts_initError nofun)) fun _ s5 h5 => .ok _ (h5.setSeq 0)

theorem opExitDfu_reports (h : Reported portError s0 x s) : (opExitDfu s).Reports portError s0 E x := by
  refine prologue_bind_reports h ?_
  rw [send_eq_transact]
  exact .bind (command_reports h (counts_portError _) 0) fun _ _ ht => .ok _ ht

theorem ackCommand_reports (h : Reported portError s0 x s) (op : FrameOp) (n : Nat) (y : RunState) :
    (ackCommand op n y s).Reports portError s0 E x :=
  prologue_bind_reports h (.bind (command_reports h (counts_portError _) n) fun _ _ ht => .ok _ (ht.setRun y))

theorem opVersion_reports (h : Reported portError s0 x s) : (opVersion s).Reports portError s0 E x :=
  prologue_bind_reports h (.bind (command_reports h (counts_portError _) _) fun _ _ ht => .ok _ ht)

theorem opTargetVoltage_reports (h : Reported portError s0 x s) (hE : ∀ m, E (.measuredVoltageZero m)) :
    (opTargetVoltage s).Reports portError s0 E x :=
  prologue_bind_reports h (.bind (command_reports h (counts_portError _) _) fun _ _ ht =>
    .bind (.ok _ (ht.setDrawn _)) fun _ _ hu => .ite (fun _ => .own hu (hE _)) fun _ => .ok _ hu)

theorem opCoreId_reports (h : Reported portError s0 x s) : (opCoreId s).Reports portError s0 E x :=
  prologue_bind_reports h (.bind (command_reports h (counts_portError _) _) fun _ _ ht => .ok _ (ht.setDrawn _))

theorem opRead32_reports (h : Reported portError s0 x s) (a : Word) : (opRead32 a s).Reports portError s0 E x :=
  prologue_bind_reports h (.bind (command_reports h (counts_portError _) _) fun _ _ ht => .ok _ ht)

theorem Event.error_isTransport {ev : Event} {e : Error} (h : ev.error = some e) : e.isTransport = true := by
  match ev, h with
  | .send _ _ (some (.fail _)), h => cases h; rfl
  | .recv _ _ (some (.fail _)), h => cases h; rfl
  | .recv _ n (some (.ok b)), h =>
    by_cases hb : b.length = n
    · simp [Event.error, hb] at h
    · simp only [Event.error, if_neg hb, Option.some.injEq] at h
      exact h ▸ rfl

/-- R14: what stands in the account is raised. -/
theorem raiseIf_reports {y : Option Error} (h : Reported portError s0 y s) :
    (raiseIf y s).Reports portError s0 E none := by
  cases y with
  | none => exact h
  | some e =>
    obtain ⟨evs, _, hfirst⟩ := h.port
    obtain ⟨ev, _, hev⟩ := List.exists_of_findSome?_eq_some hfirst
    exact .inl ⟨Event.error_isTransport hev, h⟩

/-- R173, R174: HALT, the write and RUN, each in the account of those before it; their first error is raised. -/
theorem opWrite32_reports (h : Reported portError s0 none s) (a w : Word) :
    (opWrite32 a w s).Reports portError s0 E none := by
  refine prologue_bind_reports h (Res.Sat.bind (Q := fun herr => Reported portError s0 herr) ?halt fun herr s1 h1 =>
    Res.Sat.bind (Q := fun werr => Reported portError s0 (herr.or werr)) ?write fun werr s2 h2 =>
    Res.Sat.bind (Q := fun rerr => Reported portError s0 ((herr.or werr).or rerr)) ?resume fun rerr s3 h3 => ?raise)
  case halt =>
    split
    · exact Res.Reports.attempt (ackCommand_reports (h.setSeq 1) ..)
    · exact h
  case write =>
    split
    · exact Res.Reports.attempt (command_reports (h1.setSeq 2) (counts_portError _) _)
    · exact show Reported _ _ (herr.or none) s1 by rwa [Option.or_none]
  case resume =>
    split
    · exact Res.Reports.attempt (ackCommand_reports (h2.setSeq 3) ..)
    · exact show Reported _ _ ((herr.or werr).or none) s2 by rwa [Option.or_none]
  case raise =>
    rw [Option.or_assoc] at h3
    exact raiseIf_reports (h3.setSeq 0)

theorem opCpuId_reports (h : Reported portError s0 x s) : (opCpuId s).Reports portError s0 E x :=
  prologue_bind_reports h (.bind (opRead32_reports (h.setSeq 1) _) fun v _ ht => .ok _ (ht.setCpuid v))

theorem opRead16_reports {a : Word} (h : Reported portError s0 x s) (hE : isOdd a = true → E (.unalignedAccess a)) :
    (opRead16 a s).Reports portError s0 E x :=
  prologue_bind_reports h (.ite (fun ha => .own h (hE ha))
    fun _ => .bind (opRead32_reports (h.setSeq 1) _) fun _ _ ht => .ok _ ht)

theorem resetWrite_reports (h : Reported portError s0 none s) : (resetWrite s).Reports portError s0 E none :=
  Res.Sat.bind (opWrite32_reports h ..).attempt fun _ _ ht => raiseIf_reports (ht.setRun _)

theorem opCoreResetHalt_reports (h : Reported portError s0 none s) :
    (opCoreResetHalt s).Reports portError s0 E none :=
  prologue_bind_reports h (.bind (opWrite32_reports (h.setSeq 1) ..) fun _ _ h1 =>
    .bind (opWrite32_reports (h1.setSeq 2) ..) fun _ _ h2 => .bind (resetWrite_reports (h2.setSeq 3)) fun _ _ h3 =>
    .bind (opRead32_reports (h3.setSeq 4) _) fun _ _ h4 => .ok _ (h4.setSeq 0))

theorem opCortexPartNumber_reports (h : Reported portError s0 x s) :
    (opCortexPartNumber s).Reports portError s0 E x :=
  prologue_bind_reports h (.bind (.ite (fun _ => opCpuId_reports (h.setSeq 1)) fun _ => .ok _ h)
    fun _ _ ht => .ok _ ht)

theorem opChipId_reports (h : Reported portError s0 x s) : (opChipId s).Reports portError s0 E x :=
  prologue_bind_reports h (.bind (opCortexPartNumber_reports (h.setSeq 1)) fun _ _ ht =>
    opRead32_reports (ht.setSeq 2) _)

theorem opDevId_reports (h : Reported portError s0 x s) : (opDevId s).Reports portError s0 E x :=
  prologue_bind_reports h (.bind (opChipId_reports (h.setSeq 1)) fun _ _ ht => .ok _ ht)

theorem opFlashSize_reports (h : Reported portError s0 x s)
    (hnone : ∀ f, flashAddrOf s0.cfg f = none → E (.unknownCore f))
    (hodd : ∀ f a, flashAddrOf s0.cfg f = some a → isOdd a = true → E (.unalignedAccess a)) :
    (opFlashSize s).Reports portError s0 E x := by
  refine prologue_bind_reports h (.bind (opDevId_reports (h.setSeq 1)) fun f t ht => ?_)
  rw [ht.cfg]
  cases hrow : flashAddrOf s0.cfg f with
  | none => exact .own ht (hnone f hrow)
  | some a => exact opRead16_reports (ht.setSeq 2) (hodd f a hrow)

theorem opClockSpeed_reports (h : Reported portError s0 x s) (hE : E (.notImplemented "clock-speed")) :
    (opClockSpeed s).Reports portError s0 E x :=
  prologue_bind_reports h (.own h hE)

/-- R271: every operation of an open session but CLOSE, which closes it. -/
theorem opBody_reports {i : Instr} (hclose : i ≠ .close) (h : Reported (accountOf s0.cfg i) s0 none s) :
    (opBody i s).Reports (accountOf s0.cfg i) s0 (OwnError s0 i) none := by
  cases i with
  | mode => exact (opMode_reports h (counts_portError _)).value
  | exitDfu => exact (opExitDfu_reports h).value
  | enterSwd => exact (opEnterSwd_reports h (counts_portError _)).value
  | sessionInit => exact (opSessionInit_reports h).value
  | close => exact absurd rfl hclose
  | version => exact (opVersion_reports h).value
  | targetVoltage => exact (opTargetVoltage_reports h .zeroReference).value
  | status => exact (opStatus_reports h (counts_portError _)).value
  | halt => exact (ackCommand_reports h ..).value
  | step => exact (ackCommand_reports h ..).value
  | run => exact (ackCommand_reports h ..).value
  | reset => exact (ackCommand_reports h ..).value
  | hardReset => exact (ackCommand_reports h ..).value
  | forceDebug => exact (ackCommand_reports h ..).value
  | coreId => exact (opCoreId_reports h).value
  | read32 a => exact (opRead32_reports h a).value
  | write32 a w => exact (opWrite32_reports h a w).value
  | read16 a => exact (opRead16_reports h (.oddAddress a)).value
  | cpuId => exact (opCpuId_reports h).value
  | coreResetHalt => exact (opCoreResetHalt_reports h).value
  | cortexPartNumber => exact (opCortexPartNumber_reports h).value
  | chipId => exact (opChipId_reports h).value
  | devId => exact (opDevId_reports h).value
  | familyGroup f => exact Res.Reports.ok _ h
  | flashSize => exact (opFlashSize_reports h .noRow .oddRow).value
  | clockSpeed => exact (opClockSpeed_reports h .clockSpeed).value

end operations

section outcome

variable {i : Instr} {e : Error}

theorem accountOf_nil (c : Config) (i : Instr) : accountOf c i [] none := by
  cases i with
  | sessionInit => exact fun _ => rfl
  | _ => rfl

/-- R271, R273: a value means that no use of the port failed, an error the transport's that it is the first to fail,
any other that it is the operation's own and none failed. -/
def Accounted (s : State) (i : Instr) (r : Res Value) : Prop :=
  r.Sat (fun _ t => accountOf s.cfg i (newEvents s t) none)
    (fun e t => (e.isTransport = true ∧ accountOf s.cfg i (newEvents s t) (some e)) ∨
      (OwnError s i e ∧ accountOf s.cfg i (newEvents s t) none))
    fun _ => True

/-- R271: every operation, of an open and of a closed session. -/
theorem opBody_accounted (i : Instr) (s : State) : Accounted s i (opBody i (begin s)) := by
  have unused : newEvents s (begin s) = [] := List.drop_length
  cases ho : s.session.isOpen with
  | false =>
    obtain hbody | ⟨v, hbody⟩ := opBody_closed (s := begin s) ho i
    · rw [hbody]
      exact .inr ⟨.closed i ho, unused ▸ accountOf_nil s.cfg i⟩
    · rw [hbody]
      exact show accountOf s.cfg i (newEvents s (begin s)) none from unused ▸ accountOf_nil s.cfg i
  | true =>
    by_cases hi : i = .close
    · subst hi
      have hlog : newEvents s (closeTransport (begin s)) = [.close] := List.drop_left
      rw [opBody, opClose_of_open (s := begin s) ho]
      exact show firstError (newEvents s (closeTransport (begin s))) = none by rw [hlog]; rfl
    · exact (opBody_reports hi (reported_begin (accountOf_nil s.cfg i) ho)).mono
        (fun _ _ ht => ht.newEvents)
        (fun _ _ => .imp (fun ⟨he, ht⟩ => ⟨he, ht.newEvents⟩) fun ⟨he, ht⟩ => ⟨he, ht.newEvents⟩) fun _ => id

/-- R260: none of them is the transport's. -/
theorem OwnError.isTransport_eq_false (h : OwnError s i e) : e.isTransport = false := by
  cases h <;> rfl

/-- R271: an operation that ends with the account x of its port reports the transport's error exactly as x does. -/
theorem exec_accounted (he : exec i s = .next t) (ht : t.inProgress = none) :
    ∃ x, accountOf s.cfg i (newEvents s t) x ∧
      ∀ e : Error, e.isTransport = true → (t.result = some (.err e) ↔ x = some e) := by
  have hbody := opBody_accounted i s
  obtain ⟨v, u, h, rfl⟩ | ⟨e, u, h, rfl⟩ := exec_ended he ht
  · rw [h] at hbody
    exact ⟨none, hbody, fun e _ => iff_of_false nofun nofun⟩
  · rw [h] at hbody
    obtain ⟨_, hx⟩ | ⟨hown, hx⟩ := hbody
    · exact ⟨some e, hx, fun e' _ => by simp⟩
    · refine ⟨none, hx, fun e' he' => iff_of_false (fun heq => ?_) nofun⟩
      cases heq
      exact absurd he' (by simp [hown.isTransport_eq_false])

/-- Settles O40: the account of SESSION_INIT, which leaves EXIT_DFU out, and that of every other operation. -/
theorem transportErrorsReported : Obligations.TransportErrorsReported := by
  intro i s t e he ht htransport
  obtain ⟨x, hx, hiff⟩ := exec_accounted he ht
  refine ⟨fun hi => ?_, fun hi hc => ?_⟩
  · rw [accountOf_eq s.cfg hi] at hx
    rw [hiff e htransport, show firstError (newEvents s t) = x from hx]
  · subst hi
    rw [hiff e htransport, hx hc]

/-- R260: an error is the transport's or the operation's own. -/
theorem exec_error_cases (he : exec i s = .next t) (ht : t.result = some (.err e)) :
    e.isTransport = true ∨ OwnError s i e := by
  have hbody := opBody_accounted i s
  obtain ⟨u, h, rfl⟩ := exec_raised he ht
  rw [h] at hbody
  exact hbody.imp And.left And.left

/-- Settles O49: where each error that is not the transport's comes from. -/
theorem errorsRaisedBy : Obligations.ErrorsRaisedBy := by
  intro i s t e he ht
  obtain htransport | hown := exec_error_cases he ht
  · have hne {x : Error} (hx : x.isTransport = false) : e ≠ x := by
      rintro rfl
      simp [hx] at htransport
    exact ⟨fun h => absurd h (hne rfl), fun _ h => absurd h (hne rfl), fun _ h => absurd h (hne rfl),
      fun _ h => absurd h (hne rfl), fun _ h => absurd h (hne rfl)⟩
  · cases hown with
    | closed _ h => exact ⟨fun _ => h, nofun, nofun, nofun, nofun⟩
    | oddAddress a h => exact ⟨nofun, fun x hx _ => by cases hx; exact ⟨rfl, h⟩, nofun, nofun, nofun⟩
    | oddRow f a hrow h =>
      refine ⟨nofun, fun x _ htable => ?_, nofun, nofun, nofun⟩
      exact absurd h (by simp [isOdd_of_flashAddrOf htable hrow])
    | noRow f h => exact ⟨nofun, nofun, nofun, fun x hx => by cases hx; exact ⟨rfl, h⟩, nofun⟩
    | zeroReference m => exact ⟨nofun, nofun, fun _ _ => rfl, nofun, nofun⟩
    | clockSpeed => exact ⟨nofun, nofun, nofun, nofun, fun x hx => by cases hx; exact ⟨rfl, rfl⟩⟩

end outcome

end accounts

end Sys2Proof.Machine
end

section
/-! PROOF of the family 70_reset_and_hazards.md. First a blocked operation: it has no result, and neither a step nor a
request gets past it (R300, R26, R278); then the opening of a session that SESSION_INIT completes (R290, R291). -/

namespace Sys2Proof.Machine

section blocked

variable {i : Instr} {s t : State}

/-- R26: with an operation in progress the session does not serve, and does not open. -/
theorem step_of_inProgress (h : s.inProgress ≠ none) : step s = stuck s := by
  rw [step, if_pos (Option.isSome_iff_ne_none.mpr h)]

/-- R300: with no request waiting, a blocked session hangs. -/
theorem stuck_of_no_requests (h : s.requests = []) : stuck s = .fault .hang := by
  rw [stuck, h]

/-- R26: a request that waits on a blocked session is refused. -/
theorem stuck_of_requests (h : s.requests ≠ []) : stuck s = .refused .requestOverlap := by
  obtain ⟨r, rest, hreq⟩ := List.exists_cons_of_ne_nil h
  rw [stuck, hreq]

/-- R26, R278: no operation is taken while another is in progress. -/
theorem exec_of_inProgress (j : Instr) (h : s.inProgress ≠ none) : exec j s = .refused .requestOverlap := by
  rw [exec_eq_perform, perform_overlap j _ h]

/-- R300, R28: taking the request cleared the result, and an operation that blocks has written none. -/
theorem result_eq_none_of_blocked (he : exec i s = .next t) (ht : t.inProgress ≠ none) : t.result = none := by
  have hbody := (stable_noResult (w := ⟨True, True, True⟩)).opBody_within (s := begin s) rfl i
    (fun _ => trivial) (fun _ => trivial) (fun _ => trivial)
  obtain ⟨u, hblocked, rfl⟩ := exec_blocked he ht
  rw [hblocked] at hbody
  exact hbody

/-- Settles O42: the blocked body names the operation and has no result; the rest is any session with an operation
in progress. -/
theorem blockedHasNoStep : Obligations.BlockedHasNoStep := by
  intro i s t he ht
  have hstuck : step t = stuck t := step_of_inProgress ht
  obtain ⟨u, _, hu⟩ := exec_blocked he ht
  exact ⟨by rw [hu, State.setInProgress_inProgress], result_eq_none_of_blocked he ht,
    fun hreq => hstuck.trans (stuck_of_no_requests hreq), fun hreq => hstuck.trans (stuck_of_requests hreq),
    fun j => exec_of_inProgress j ht⟩

end blocked

section opened

variable {i : Instr} {s t : State}

/-- R290, R294: the first step of a created session runs SESSION_INIT, whatever requests wait. -/
theorem step_of_opening (hready : Ready s) (hphase : s.phase = .opening) :
    step s = .next (finishOpening (opSessionInit (begin s))) := by
  have hidle : s.inProgress = none := hready
  simp [step, hidle, hphase, openSession]

/-- R28: a value on the result port is the one the operation's body returned. -/
theorem exec_returned {v : Value} (he : exec i s = .next t) (ht : t.result = some (.ok v)) :
    ∃ u, opBody i (begin s) = .ok v u ∧ t = u.answered (.ok v) := by
  have hidle : t.inProgress = none := by
    by_contra hblocked
    exact nomatch ht.symm.trans (result_eq_none_of_blocked he hblocked)
  obtain ⟨w, u, hbody, rfl⟩ | ⟨e, u, _, rfl⟩ := exec_ended he hidle
  · cases ht
    exact ⟨u, hbody, rfl⟩
  · cases ht

theorem value_eq_ok {α : Type} {r : Res α} {f : α → Value} {v : Value} {u : State} (h : r.value f = .ok v u) :
    ∃ a, r = .ok a u ∧ f a = v := by
  cases r with
  | ok a w =>
    cases h
    exact ⟨a, rfl, rfl⟩
  | err e w => cases h
  | blocked w => cases h

/-- R290, R291: where SESSION_INIT completes, the opening completes with the same state and hands the session over. -/
theorem step_of_sessionInit_returned {v : Value} (hphase : s.phase = .opening)
    (he : exec .sessionInit s = .next t) (ht : t.result = some (.ok v)) : step s = .next (t.setPhase .ready) := by
  obtain ⟨hready, _⟩ := exec_next he
  obtain ⟨u, hbody, rfl⟩ := exec_returned he ht
  obtain ⟨_, hinit, rfl⟩ := value_eq_ok hbody
  rw [step_of_opening hready hphase, hinit]
  rfl

/-- Settles O52: SESSION_INIT, answered throughout, completes as `sessionInitCompletes` has it. -/
theorem openingCompletes : Obligations.OpeningCompletes := by
  intro s b1 b2 b3 be m1 m2 ex drawn hopen hphase hans
  exact step_of_sessionInit_returned hphase (sessionInitCompletes s b1 b2 b3 be hopen hans) rfl

end opened

end Sys2Proof.Machine
end
